-- ==== Sys2Proof/Word.lean ====
section
/-! DEFINITION. The words of the block (spec/00_scope.md section 5.1, spec/10_state.md R10, R11):
strings of 32 bits with bit 0 least significant, and the notation `u()`, `s()`, `word()`. -/

namespace Sys2Proof

/-- A 32-bit word, the unit of exchange at every boundary of the block (R11). `u(w)` is `w.toNat`,
`s(w)` is `w.toInt`, the slice `w[hi:lo]` is `w.extractLsb' lo (hi - lo + 1)`. -/
abbrev Word := BitVec 32

/-- A channel number as the command word carries it: 8 bits, unsigned (R62, R64). -/
abbrev ChannelNo := BitVec 8

/-- A buffer index as the buffer port carries it: 10 bits (R32). -/
abbrev BufIndex := BitVec 10

/-- `word(n)`: the word whose unsigned value is `n` modulo `2^32`, for any integer `n`
(spec/00_scope.md section 5.1). -/
def word (n : Int) : Word := BitVec.ofInt 32 n

end Sys2Proof
end

