-- ==== Sys2Proof/Syntax.lean ====
section
/-! DEFINITION. Commands as the host presents them (spec/30_encoding.md R60, R62) and the six
instructions of spec/opcode_table.json (R65). -/

namespace Sys2Proof

/-- One command: three 32-bit words presented together (R60), 96 bits in all (R62). -/
structure Command where
  /-- The command word: opcode, channel and reserved bits. -/
  cmd : Word
  /-- Operand word `A`. -/
  a : Word
  /-- Operand word `B`. -/
  b : Word
deriving DecidableEq, Repr

/-- The six commands (R65), each with every operand its format carries (R63). The operand word `B` of
NEG and of ITER is ignored by the block; it is kept here so that no bit of a command is dropped. -/
inductive Instr where
  /-- ADD, opcode 0x1 (R85). -/
  | add (a b : Word)
  /-- SUB, opcode 0x2 (R86). -/
  | sub (a b : Word)
  /-- NEG, opcode 0x3 (R87). -/
  | neg (a ignored : Word)
  /-- MUL, opcode 0x4 (R88). -/
  | mul (a b : Word)
  /-- SET, opcode 0x8 (R100). -/
  | set (ch : ChannelNo) (targetAmplitude targetFrequency : Word)
  /-- ITER, opcode 0x9 (R102). -/
  | iter (ch : ChannelNo) (len ignored : Word)
deriving DecidableEq, Repr

/-- The pseudo-command `ITER ch`: `ITER ch, 1024` with the ignored operand word zero (R69). -/
def Instr.iterShort (ch : ChannelNo) : Instr := .iter ch 0x00000400#32 0x00000000#32

/-- The pseudo-command `NEG a` with `B` not written: the ignored operand word zero (R69). -/
def Instr.negShort (a : Word) : Instr := .neg a 0x00000000#32

end Sys2Proof
end

