-- ==== Sys2Proof/Decode.lean ====
section
/-! DEFINITION. The decoder and the encoder of command words (spec/30_encoding.md R62 to R67). The
decoder is total on the 96 bits of a command and rejects by name. The check `ch < NOSC` is made on
the value after the pattern has matched (R65), where the channel is used. -/

namespace Sys2Proof

/-- Why a command word spells no command (R66). Every one of them is the same fault, IllegalCommand. -/
inductive Reject where
  /-- `rsv_hi` or `rsv_lo` is not zero (R66 condition 2). -/
  | reservedBits
  /-- `opcode` is none of the six (R66 condition 1). -/
  | opcode
  /-- `ch` is not zero on ADD, SUB, NEG or MUL (R66 condition 3). -/
  | aluChannel
deriving DecidableEq, Repr

/-- `CMD[31:16]` (R62). -/
def Command.rsvHi (c : Command) : BitVec 16 := c.cmd.extractLsb' 16 16

/-- `CMD[15:8]` (R62). -/
def Command.ch (c : Command) : ChannelNo := c.cmd.extractLsb' 8 8

/-- `CMD[7:4]` (R62). -/
def Command.rsvLo (c : Command) : BitVec 4 := c.cmd.extractLsb' 4 4

/-- `CMD[3:0]` (R62). -/
def Command.opcode (c : Command) : BitVec 4 := c.cmd.extractLsb' 0 4

/-- An ALU command is one only on channel 0 (R62, R66 condition 3). -/
def decodeAlu (c : Command) (i : Instr) : Except Reject Instr :=
  if c.ch = 0#8 then .ok i else .error .aluChannel

/-- The instruction a command spells (R65), or why it spells none (R66 conditions 1 to 3). -/
def decode (c : Command) : Except Reject Instr :=
  if c.rsvHi = 0#16 ∧ c.rsvLo = 0#4 then
    if c.opcode = 0x1#4 then decodeAlu c (.add c.a c.b)
    else if c.opcode = 0x2#4 then decodeAlu c (.sub c.a c.b)
    else if c.opcode = 0x3#4 then decodeAlu c (.neg c.a c.b)
    else if c.opcode = 0x4#4 then decodeAlu c (.mul c.a c.b)
    else if c.opcode = 0x8#4 then .ok (.set c.ch c.a c.b)
    else if c.opcode = 0x9#4 then .ok (.iter c.ch c.a c.b)
    else .error .opcode
  else .error .reservedBits

/-- The command word with a given channel and opcode and zero reserved bits (R62). -/
def commandWord (ch : ChannelNo) (opcode : BitVec 4) : Word := 0#16 ++ ch ++ 0#4 ++ opcode

/-- The three words of an instruction (R62, R63, R65). -/
def encode : Instr → Command
  | .add a b => ⟨commandWord 0#8 0x1#4, a, b⟩
  | .sub a b => ⟨commandWord 0#8 0x2#4, a, b⟩
  | .neg a b => ⟨commandWord 0#8 0x3#4, a, b⟩
  | .mul a b => ⟨commandWord 0#8 0x4#4, a, b⟩
  | .set ch a b => ⟨commandWord ch 0x8#4, a, b⟩
  | .iter ch a b => ⟨commandWord ch 0x9#4, a, b⟩

/-- The command whose low `nbits` bits are those of `w` and whose other bits are 0. `CMD` is bits 31:0,
`A` bits 63:32 and `B` bits 95:64 of the number: the block takes the three words together (R60), so
their order in one number is the model's. DESIGN CHOICE, safe (log entry 13). -/
def commandOfBits (nbits w : Nat) : Command :=
  let v := w % 2 ^ nbits
  ⟨BitVec.ofNat 32 v, BitVec.ofNat 32 (v / 2 ^ 32), BitVec.ofNat 32 (v / 2 ^ 64)⟩

/-- The instruction the decoder reads from the bits `w` of an opcode-table row. -/
def decodeTableWord (nbits w : Nat) : Option Instr :=
  match decode (commandOfBits nbits w) with
  | .ok i => some i
  | .error _ => none

end Sys2Proof
end

