-- ==== Sys2Proof/Config.lean ====
section
/-! DEFINITION. The implementation parameters of spec/00_scope.md R5, and the values the spec leaves
open. A value left open is an `opaque` constant: it has no body, so no proof can lean on what it is. -/

namespace Sys2Proof.Config

/-- `FRAC_BITS` (R5): fractional bits of a word. -/
def fracBits : Nat := 16

/-- `TABLE_BITS` (R5): log2 of the sine ROM depth. -/
def tableBits : Nat := 12

/-- `TABLE_SIZE = 2^TABLE_BITS` (R5, R6). -/
def tableSize : Nat := 4096

/-- `INDEX_SHIFT = FRAC_BITS - TABLE_BITS` (R5, R6, R158). -/
def indexShift : Nat := 4

/-- `BUFBITS` (R5): log2 of the block length, and the right shift of both step formulas. -/
def bufBits : Nat := 10

/-- `N = 2^BUFBITS` (R5, R6): the block length in samples. -/
def blockLen : Nat := 1024

/-- `NOSC` of `Machine.State.reset` alone. The spec leaves `NOSC` open between 1 and 256 and lets a
model fix it to 2 (D4, R5); every meaning reads the number of channels from the state instead.
DESIGN CHOICE, unsafe for a statement about the channel count of `State.reset` (log entry 1). -/
def nosc : Nat := 2

/-- What word `i` of the host's `gen`-th buffer holds when nobody has written it: any value
(R153, D23, U2). A free value, safe (log entry 2). -/
opaque unwrittenWord (gen : Nat) (i : Nat) : Word

/-- Whether the ITER that the `gen`-th reset during a command cut off had already updated buffer word
`i`: unknown (R151, U4). A free value, safe (log entry 6). -/
opaque reachedBeforeReset (gen : Nat) (i : Nat) : Bool

/-- `ROUND_TIE` (R5, D8): whether `fromFloat` takes the upper neighbour of `k + 1/2`. It reaches no
command and no ROM word. A free value, safe (log entry 9). -/
opaque roundTieUp (k : Int) : Bool

end Sys2Proof.Config
end

