-- ==== Sys2Proof/Machine/Arith.lean ====
section
/-! DEFINITION. The arithmetic functions of the Q16.16 ALU (spec/40_alu.md section 1), and the
specification function `fromFloat` (spec/40_alu.md R95), which is no command of the block. -/

namespace Sys2Proof.Machine

/-- `add32(a, b) = word(u(a) + u(b))` (R80). -/
def add32 (a b : Word) : Word := word (a.toNat + b.toNat)

/-- `sub32(a, b) = word(u(a) - u(b))` (R81). -/
def sub32 (a b : Word) : Word := word (a.toNat - b.toNat)

/-- `neg32(a) = word(-u(a))` (R82). -/
def neg32 (a : Word) : Word := word (-a.toNat)

/-- The unsigned magnitude of a word, at most `2^31` (R83 points 1 and 2): the sign is the top bit. -/
def magnitude (a : Word) : Nat := if a.msb then 2 ^ 32 - a.toNat else a.toNat

/-- The rescaled magnitude product `p` of R83, exact. -/
def rescaledProduct (a b : Word) : Nat := magnitude a * magnitude b / 2 ^ Config.fracBits

/-- `mul32(a, b)` (R83): `none` is `raise MulRange`, exactly when the rescaled product does not fit in
32 bits; otherwise the product, negated when the signs differ. -/
def mul32 (a b : Word) : Option Word :=
  let p := rescaledProduct a b
  if 2 ^ 32 ≤ p then none
  else if a.msb = b.msb then some (word p)
  else some (word (2 ^ 32 - p))

/-- `asr32(a, n) = word(floor(s(a) / 2^n))` for `0 <= n <= 31` (R84, D6). -/
def asr32 (a : Word) (n : Nat) : Word := word (a.toInt / 2 ^ n)

/-- `round` of R95: the nearest integer, the neighbour of an exact half-way point picked by `ROUND_TIE`
(D8). It is written once for every ordered field with a floor, so that the rule's reals and the rationals,
on which it can be evaluated, are two readings of one definition (log entry 9). -/
def roundNearest {K : Type} [Field K] [LinearOrder K] [FloorRing K] (x : K) : Int :=
  let k := ⌊x⌋
  let frac := x - (k : K)
  if frac < 1 / 2 then k
  else if 1 / 2 < frac then k + 1
  else if Config.roundTieUp k then k + 1 else k

/-- `fromFloat(x) = word(round(x * 65536))` (R95), total on the reals: a specification function, not
hardware. -/
def fromFloat {K : Type} [Field K] [LinearOrder K] [FloorRing K] (x : K) : Word :=
  word (roundNearest (x * 65536))

end Sys2Proof.Machine
end

