-- ==== Sys2Proof/Machine/State.lean ====
section
/-! DEFINITION. The state of the block (spec/10_state.md) as plain data, the host's pending actions, the
reasons a step can stop, and the state after reset (R22, R23, R150). -/

namespace Sys2Proof.Machine

/-- The four registers of one oscillator channel (R13). -/
structure Channel where
  /-- `AMP[ch]`: amplitude accumulator, Q16.16. -/
  amp : Word
  /-- `PHASE[ch]`: phase accumulator, Q16.16 in cycles. -/
  phase : Word
  /-- `ASTEP[ch]`: amplitude step per sample. -/
  astep : Word
  /-- `PSTEP[ch]`: phase step per sample. -/
  pstep : Word
deriving DecidableEq, Repr

/-- A channel after reset (R22). -/
def Channel.zero : Channel := ⟨0#32, 0#32, 0#32, 0#32⟩

/-- The sample buffer attached to the buffer port (R26, R30, R32): the written words as (index, word)
pairs, indexes strictly rising. An unlisted index is a word nobody has written (log entries 2, 4). -/
abbrev Memory := List (Nat × Word)

/-- A response (R61): `STATUS` as it stands after the command, and the response word `R`, which a
command that did not complete does not have (U5, log entry 5). -/
structure Response where
  /-- `STATUS` after the command. -/
  status : BitVec 4
  /-- `R`, when the command completed. -/
  r : Option Word
deriving DecidableEq, Repr

/-- The fault causes of R120. -/
inductive FaultCause where
  /-- Code 1, source class (a): reserved, never raised by the block. -/
  | nonRealInput
  /-- Code 2, source class (b): ITER with `u(A) != 1024` (R121). -/
  | sizeMismatch
  /-- Code 3, source class (c): ROM index out of range, cannot occur (R105). -/
  | indexRange
  /-- Code 4, source class (d): rescaled product does not fit 32 bits (R122). -/
  | mulRange
  /-- Code 5: the command word spells no command (R123). -/
  | illegalCommand
deriving DecidableEq, Repr

/-- What the host does next at the block's inputs. The block takes one of these a step, in order of
arrival (R16, R44, R60). Log entry 3. -/
inductive Input where
  /-- The host issues a command (R60). -/
  | command (c : Command)
  /-- The host applies and releases reset between two commands (R150). -/
  | reset
  /-- The host issues `c` and reset arrives while it runs (R151). -/
  | resetDuring (c : Command)
  /-- The host attaches another buffer (R32). That none of its words has been written yet is the model's
  choice (log entry 19). -/
  | attach
  /-- The host writes word `i` of the attached buffer, which it owns between commands (R42, R45). -/
  | fill (i : BufIndex) (v : Word)
deriving DecidableEq, Repr

/-- Why a step stops with a fault: never. The spec describes the entry of every fault of the block
(R124), so a fault is a next state, in which `STATUS` records it (log entry 18). Safe. -/
inductive Fault
deriving DecidableEq, Repr

/-- Why a step is refused. -/
inductive Refusal where
  /-- Raised by `exec` for an instruction without a meaning in the model. Safe: nothing is claimed about
  it. No arm of `exec` raises it. -/
  | notModelled (mnemonic : String)
deriving DecidableEq, Repr

/-- The block, the buffer at its buffer port, and what the host is going to do. -/
structure State where
  /-- The oscillator channels, channel 0 first; `NOSC` is their number (R13, R136). -/
  channels : List Channel
  /-- `STATUS`: `FAULTED` is bit 3, `CAUSE` is bits 2:0 (R18). -/
  status : BitVec 4
  /-- The buffer attached to the buffer port (R30, R32). -/
  buf : Memory
  /-- The response port: the response to the last command since reset (R61, log entry 5). -/
  response : Option Response
  /-- The host actions not taken yet, the next one first (log entry 3). -/
  inputs : List Input
  /-- The model's own: which buffer is attached, for `Config.unwrittenWord` (log entries 2, 14). -/
  bufGen : Nat
  /-- The model's own: how many resets arrived during a command, for `Config.reachedBeforeReset` (log
  entries 6, 14). -/
  resetGen : Nat
deriving DecidableEq, Repr

namespace State

/-- The state with other channels. -/
def setChannels (s : State) (v : List Channel) : State := { s with channels := v }
/-- The state with another `STATUS`. -/
def setStatus (s : State) (v : BitVec 4) : State := { s with status := v }
/-- The state with another buffer. -/
def setBuf (s : State) (v : Memory) : State := { s with buf := v }
/-- The state with another response on the response port. -/
def setResponse (s : State) (v : Option Response) : State := { s with response := v }
/-- The state with other pending host actions. -/
def setInputs (s : State) (v : List Input) : State := { s with inputs := v }
/-- The state with another buffer number. -/
def setBufGen (s : State) (v : Nat) : State := { s with bufGen := v }
/-- The state with another count of resets during a command. -/
def setResetGen (s : State) (v : Nat) : State := { s with resetGen := v }

/-- A block with `n` channels right after reset: every oscillator register zero (R22), `STATUS = 0x0`
(R23), no command executing and none waiting. The buffer is not part of the block's reset (R25): nobody
has written a word of it (log entry 17). -/
def resetWith (n : Nat) : State where
  channels := List.replicate n Channel.zero
  status := 0x0#4
  buf := []
  response := none
  inputs := []
  bufGen := 0
  resetGen := 0

/-- The machine right after reset, with the channel count of the spec's test vectors (R5, D4). -/
def reset : State := resetWith Config.nosc

end State

end Sys2Proof.Machine
end

