-- ==== Sys2Proof/Machine/Flags.lean ====
section
/-! DEFINITION. `STATUS` and the `fault` line (spec/10_state.md R18, spec/60_exceptions.md R120, R127).
The block has no condition codes (spec/10_state.md R17): no command computes a flag, and `STATUS` is
the one register with fields. -/

namespace Sys2Proof.Machine

/-- The code of a fault cause (R120), the value of `STATUS.CAUSE` (R18). -/
def FaultCause.code : FaultCause → BitVec 3
  | .nonRealInput => 1#3
  | .sizeMismatch => 2#3
  | .indexRange => 3#3
  | .mulRange => 4#3
  | .illegalCommand => 5#3

/-- `STATUS` after a fault with this cause: `FAULTED = 1` and `CAUSE = c`, that is `0x8 + c` (R124). -/
def FaultCause.status (c : FaultCause) : BitVec 4 := 1#1 ++ c.code

/-- `STATUS.FAULTED`, bit 3 (R18). -/
def State.faulted (s : State) : Bool := s.status.getLsbD 3

/-- `STATUS.CAUSE`, bits 2:0 (R18). -/
def State.cause (s : State) : BitVec 3 := s.status.extractLsb' 0 3

/-- The output line `fault`, equal to `STATUS.FAULTED` at all times (R127). -/
def State.faultLine (s : State) : Bool := s.faulted

end Sys2Proof.Machine
end

