-- ==== Sys2Proof/Machine/Operands.lean ====
section
/-! DEFINITION. The operand forms (spec/30_encoding.md R63, R64): a channel number, the declared length
of ITER, and the ROM index drawn from a phase word (spec/41_oscillator.md R103). The remaining operands
are words used as they are (R64), with nothing to compute. -/

namespace Sys2Proof.Machine

/-- `NOSC` of this block (R5, R136). -/
def State.nosc (s : State) : Nat := s.channels.length

/-- The registers of channel `ch`, or `none` when `ch >= NOSC` (R62, R66 condition 4). -/
def State.channel? (s : State) (ch : ChannelNo) : Option Channel := s.channels[ch.toNat]?

/-- The length check of ITER: all of `u(A)` against the block length (R64, R102, R121). -/
def lenMatches (len : Word) : Bool := len.toNat == Config.blockLen

/-- The ROM index of a phase word: the top 12 of its 16 fraction bits, `p[15:4]` (R103). -/
def romIndex (p : Word) : Nat := ((p &&& 0xFFFF#32) >>> Config.indexShift).toNat

end Sys2Proof.Machine
end

