-- ==== Sys2Proof/Machine/Ops.lean ====
section
/-! DEFINITION. The named operations over the state: the buffer port, the oscillator registers, the
response, fault entry (spec/60_exceptions.md R124, R125), reset (spec/70_reset_and_hazards.md R150,
R151) and the sample loop of ITER (spec/41_oscillator.md R102). -/

namespace Sys2Proof.Machine

/-- What a step or a meaning answers. -/
abbrev Result := Host.Outcome State Fault Refusal

/-! ## The sample buffer -/

/-- The word somebody has written at index `i`, if any. -/
def Memory.read? : Memory → Nat → Option Word
  | [], _ => none
  | (j, v) :: rest, i => if j = i then some v else Memory.read? rest i

/-- The buffer with word `i` replaced by `v` and every other word as before (R34). -/
def Memory.write : Memory → Nat → Word → Memory
  | [], i, v => [(i, v)]
  | (j, w) :: rest, i, v =>
    if i < j then (i, v) :: (j, w) :: rest
    else if i = j then (i, v) :: rest
    else (j, w) :: Memory.write rest i v

/-- Indexes strictly rising, all at least `lo` and below the block length. -/
def Memory.risingFrom : Nat → Memory → Bool
  | _, [] => true
  | lo, (j, _) :: rest =>
    decide (lo ≤ j) && decide (j < Config.blockLen) && Memory.risingFrom (j + 1) rest

/-- The canonical form of a buffer: each index at most once, rising, within the 1024 words (R30). An
unlisted index reads as no word, so no entry can equal it (log entry 4). -/
def Memory.wf (m : Memory) : Bool := Memory.risingFrom 0 m

/-- `MemRead(BUF, i)` (R33) of the host's `gen`-th buffer. A word nobody has written is any value (U2):
the instruction that reads it goes on. -/
def bufRead (gen : Nat) (m : Memory) (i : BufIndex) : Word :=
  (m.read? i.toNat).getD (Config.unwrittenWord gen i.toNat)

/-- `MemWrite(BUF, i, v)` (R34). -/
def bufWrite (m : Memory) (i : BufIndex) (v : Word) : Memory := m.write i.toNat v

/-- Word `i` of the buffer attached to the port (R33). -/
def State.bufWord (s : State) (i : BufIndex) : Word := bufRead s.bufGen s.buf i

/-! ## Registers, response, faults -/

/-- The state with the registers of channel `ch` replaced (R14: of that channel only). -/
def State.setChannel (s : State) (ch : ChannelNo) (c : Channel) : State :=
  s.setChannels (s.channels.set ch.toNat c)

/-- The observation ports of channel `ch` (R15, D24): its four registers, read without a side effect. -/
def State.observe (s : State) (ch : ChannelNo) : Option Channel := s.channel? ch

/-- `respond(R)` (spec/00_scope.md section 5.2, R61): the command completes with result `r`. -/
def State.respond (s : State) (r : Word) : State := s.setResponse (some ⟨s.status, some r⟩)

/-- Fault entry (R124): no write of the command happens, `STATUS <- 0x8 + c`, and the response carries
that status and no result. The `fault` line follows `STATUS` (R127). -/
def State.raise (s : State) (c : FaultCause) : State :=
  (s.setStatus c.status).setResponse (some ⟨c.status, none⟩)

/-- A command in the faulted state (R125): a response with the unchanged `STATUS`, nothing else. -/
def State.answerFaulted (s : State) : State := s.setResponse (some ⟨s.status, none⟩)

/-- The first priority of R128: a faulted block does not execute the command at all. -/
def whenRunning (s : State) (run : Result) : Result :=
  if s.faulted then .next s.answerFaulted else run

/-- What becomes of a command word that spells no command (R66, R123), after the first priority of
R128. -/
def illegalCommand (s : State) : Result := whenRunning s (.next (s.raise .illegalCommand))

/-! ## The sample loop of ITER -/

/-- What a running ITER works on (R16, R20): the working amplitude and phase, the sample index, and the
buffer it has been lent (R42). -/
structure IterWork where
  /-- Working amplitude `a`. -/
  a : Word
  /-- Working phase `p`. -/
  p : Word
  /-- Sample index, a 10-bit counter. -/
  i : BufIndex
  /-- The buffer so far. -/
  buf : Memory
deriving DecidableEq, Repr

/-- One pass of the loop body of R102 (R104), with the steps `da` and `dp`: index check, ROM read,
multiply, additive mix, advance. -/
def sampleStep (gen : Nat) (da dp : Word) (w : IterWork) : Except FaultCause IterWork :=
  let idx := romIndex w.p
  if Config.tableSize ≤ idx then .error .indexRange
  else
    match mul32 w.a (romWord idx) with
    | none => .error .mulRange
    | some smp =>
      .ok {
        a := add32 w.a da
        p := add32 w.p dp
        i := w.i + 1#10
        buf := bufWrite w.buf w.i (add32 (bufRead gen w.buf w.i) smp) }

/-- `n` samples in order, stopping at the first that raises (R102, R43). -/
def samples (gen : Nat) (da dp : Word) : Nat → IterWork → Except FaultCause IterWork
  | 0, w => .ok w
  | n + 1, w =>
    match sampleStep gen da dp w with
    | .error e => .error e
    | .ok w' => samples gen da dp n w'

/-- The loop of one ITER of a channel with registers `c`, from sample 0 on (R102). -/
def iterBlock (gen : Nat) (c : Channel) (m : Memory) : Except FaultCause IterWork :=
  samples gen c.astep c.pstep Config.blockLen ⟨c.amp, c.phase, 0#10, m⟩

/-! ## Reset and the host's buffer -/

/-- Reset applied and released (R150): every oscillator register of every channel zero, `STATUS = 0x0`,
no response outstanding; the buffer is not touched (R25). -/
def State.applyReset (s : State) : State :=
  ((s.setChannels (s.channels.map fun _ => Channel.zero)).setStatus 0x0#4).setResponse none

/-- The buffer of an ITER cut off by a reset (R151): each of the words below `n` is either its old word
or the word the whole ITER would have left, which of the two being unknown. -/
def cutOffBuffer (gen : Nat) (old new : Memory) : Nat → Memory
  | 0 => old
  | n + 1 =>
    let m := cutOffBuffer gen old new n
    match new.read? n with
    | none => m
    | some v => if Config.reachedBeforeReset gen n then m.write n v else m

/-- Reset that arrives while a command runs (R151): `done` is the state the command would have reached.
The command ends without a response, the registers take their reset values, the buffer is partly
updated (U4, log entry 6). -/
def State.applyResetDuring (s done : State) : State :=
  (s.applyReset.setBuf (cutOffBuffer s.resetGen s.buf done.buf Config.blockLen)).setResetGen (s.resetGen + 1)

/-- The host attaches another buffer (R32). What that buffer holds the spec leaves open: here it is one of
which nobody has written a word, and attaching an earlier buffer again is this and then a fill of each of
its words. DESIGN CHOICE, unsafe for a claim about the words right after it (log entry 19). -/
def State.attachBuffer (s : State) : State := (s.setBuf []).setBufGen (s.bufGen + 1)

/-- The host writes a word of the attached buffer between commands (R42, R45). -/
def State.fillWord (s : State) (i : BufIndex) (v : Word) : State := s.setBuf (bufWrite s.buf i v)

end Sys2Proof.Machine
end

