-- ==== Sys2Proof/Machine/Alu.lean ====
section
/-! DEFINITION. The four ALU commands (spec/40_alu.md section 2). None reads or writes an oscillator
register, the ROM or the buffer, and none writes a flag. -/

namespace Sys2Proof.Machine

/-- ADD (R85): responds `add32(A, B)`. -/
def execAdd (a b : Word) (s : State) : Result := whenRunning s (.next (s.respond (add32 a b)))

/-- SUB (R86): responds `sub32(A, B)`. -/
def execSub (a b : Word) (s : State) : Result := whenRunning s (.next (s.respond (sub32 a b)))

/-- NEG (R87): responds `neg32(A)`. The operand word `B` is ignored (R63). -/
def execNeg (a _ignored : Word) (s : State) : Result := whenRunning s (.next (s.respond (neg32 a)))

/-- MUL (R88): responds `mul32(A, B)`, or raises MulRange and gives no result (R122). -/
def execMul (a b : Word) (s : State) : Result :=
  whenRunning s
    (match mul32 a b with
      | none => .next (s.raise .mulRange)
      | some r => .next (s.respond r))

end Sys2Proof.Machine
end

