-- ==== Sys2Proof/Machine/Oscillator.lean ====
section
/-! DEFINITION. The two oscillator commands (spec/41_oscillator.md R100, R102). A channel number that is
not below `NOSC` makes either an illegal command, before its operands are looked at (R66, R128). -/

namespace Sys2Proof.Machine

/-- SET (R100): the amplitude step from the wrapped difference of target and current amplitude (D7), the
phase step from the target frequency alone; both by the arithmetic shift (D6). -/
def execSet (ch : ChannelNo) (targetAmplitude targetFrequency : Word) (s : State) : Result :=
  whenRunning s
    (match s.channel? ch with
      | none => .next (s.raise .illegalCommand)
      | some c =>
        let d := sub32 targetAmplitude c.amp
        .next ((s.setChannel ch
          { c with
            astep := asr32 d Config.bufBits
            pstep := asr32 targetFrequency Config.bufBits }).respond 0#32))

/-- ITER (R102): the length check before anything else (R121), then 1024 samples on working copies, then
the commit of `AMP` and `PHASE`. A raise inside the loop would leave no effect (R124); it cannot happen
(R105, log entry 10). -/
def execIter (ch : ChannelNo) (len _ignored : Word) (s : State) : Result :=
  whenRunning s
    (match s.channel? ch with
      | none => .next (s.raise .illegalCommand)
      | some c =>
        if lenMatches len then
          match iterBlock s.bufGen c s.buf with
          | .error e => .next (s.raise e)
          | .ok w => .next (((s.setBuf w.buf).setChannel ch { c with amp := w.a, phase := w.p }).respond 0#32)
        else .next (s.raise .sizeMismatch))

end Sys2Proof.Machine
end

