-- ==== Sys2Proof/Machine/Dispatch.lean ====
section
/-! DEFINITION. One arm per instruction (spec/opcode_table.json). -/

namespace Sys2Proof.Machine

/-- What an instruction does (R65). -/
def exec (i : Instr) (s : State) : Host.Outcome State Fault Refusal :=
  match i with
  | .add a b => Sys2Proof.Machine.execAdd a b s
  | .sub a b => Sys2Proof.Machine.execSub a b s
  | .neg a b => Sys2Proof.Machine.execNeg a b s
  | .mul a b => Sys2Proof.Machine.execMul a b s
  | .set ch a b => Sys2Proof.Machine.execSet ch a b s
  | .iter ch a b => Sys2Proof.Machine.execIter ch a b s

end Sys2Proof.Machine
end

