-- ==== Sys2Proof/Machine/Issue.lean ====
section
/-! DEFINITION. What the block does with each thing the host can present to it (spec/30_encoding.md R60,
spec/60_exceptions.md R128, spec/70_reset_and_hazards.md R150, R151). -/

namespace Sys2Proof.Machine

/-- A command as issued (R60): decoded once, at the moment of issue (R47), and executed, or illegal. -/
def issue (c : Command) (s : State) : Result :=
  match decode c with
  | .ok i => exec i s
  | .error _ => illegalCommand s

/-- One host action. Reset wins over everything (R128). -/
def takeInput (x : Input) (s : State) : Result :=
  match x with
  | .command c => issue c s
  | .reset => .next s.applyReset
  | .resetDuring c =>
    match issue c s with
    | .next done => .next (s.applyResetDuring done)
    | .fault e => .fault e
    | .refused e => .refused e
  | .attach => .next s.attachBuffer
  | .fill i v => .next (s.fillWord i v)

/-- The state in which the next host action is `x`. -/
def State.present (s : State) (x : Input) : State := s.setInputs (x :: s.inputs)

end Sys2Proof.Machine
end

