-- ==== Sys2Proof/Machine/Step.lean ====
section
/-! DEFINITION. One step: the block takes the next host action (spec/00_scope.md R4, R159). -/

namespace Sys2Proof.Machine

/-- One host action, in order of arrival (R16, R44). With none waiting the block is idle and keeps all its
state (spec/60_exceptions.md section 13, log entry 11). -/
def step (s : State) : Host.Outcome State Fault Refusal :=
  match s.inputs with
  | [] => .next s
  | x :: rest => takeInput x (s.setInputs rest)

/-- `s` with the command of these bits presented to the command port before anything else the host does:
the block has no program and no program counter (R16), so its next instruction is the next command. -/
def State.withFetchWord (s : State) (nbits w : Nat) : State :=
  s.present (.command (commandOfBits nbits w))

end Sys2Proof.Machine
end

