-- ==== Sys2Proof/WellFormed.lean ====
section
/-! DEFINITION. The one check on an instruction that its encoding does not make by itself:
`ch < NOSC` for SET and ITER (spec/30_encoding.md R65, R66 condition 4). -/

namespace Sys2Proof

/-- The instruction is legal on a block with `nosc` channels (R66 condition 4). Operand words never
make a command illegal (R66), and the four ALU commands carry no channel. -/
def Instr.wellFormed (nosc : Nat) : Instr → Bool
  | .add _ _ => true
  | .sub _ _ => true
  | .neg _ _ => true
  | .mul _ _ => true
  | .set ch _ _ => decide (ch.toNat < nosc)
  | .iter ch _ _ => decide (ch.toNat < nosc)

end Sys2Proof
end

