-- ==== Sys2Proof/Safety.lean ====
section
/-! DEFINITION. What a legal state is, in the terms the statements use. -/

namespace Sys2Proof.Machine

/-- The values `STATUS` can have (spec/10_state.md R18): running, SizeMismatch, MulRange and
IllegalCommand. NonRealInput and IndexRange are never produced, nor are codes 6 and 7. -/
def legalStatus (st : BitVec 4) : Bool :=
  st == 0x0#4 || st == 0xA#4 || st == 0xC#4 || st == 0xD#4

/-- A response agrees with `STATUS` (R61): it carries it, and it has a result exactly when it is 0. -/
def responseAgrees (st : BitVec 4) : Option Response → Bool
  | none => true
  | some r => r.status == st && (r.r.isSome == (st == 0x0#4))

/-- The invariant of the block: a legal number of channels (R5), a legal `STATUS` (R18), a buffer in
canonical form (the model's form, log entry 4), and a response port that agrees with `STATUS` (R61 when a
command completes; that the port keeps the response until the next one or a reset is log entry 5). -/
structure State.Legal (s : State) : Prop where
  noscPos : 1 ≤ s.nosc
  noscMax : s.nosc ≤ 256
  status : legalStatus s.status = true
  buf : s.buf.wf = true
  response : responseAgrees s.status s.response = true

/-- No fault is recorded: the premise of every claim about what a command computes (R61, R125). -/
abbrev State.running (s : State) : Prop := s.faulted = false

end Sys2Proof.Machine
end

