-- ==== Sys2Proof/Certificates/Slice0/Obligations.lean ====
section
/-! DEFINITION. The statements for the provers, each with the rule of spec/ it formalises. A statement
about what a command computes takes `STATUS = 0x0` as a premise (spec/10_state.md R18, spec/60_exceptions.md
R125). The explicit next states are the frames: every field a record update does not name is unchanged. -/

namespace Sys2Proof.Machine

/-! ## The formulas of the spec that the statements use -/

/-- Working amplitude at sample `k`: `word(u(a0) + k*u(da))` (R106). -/
def ampAt (c : Channel) (k : Nat) : Word := word (c.amp.toNat + k * c.astep.toNat)

/-- ROM index at sample `k`: `((u(p0) + k*u(dp)) mod 2^16) >> 4` (R106). -/
def indexAt (c : Channel) (k : Nat) : Nat := (c.phase.toNat + k * c.pstep.toNat) % 2 ^ 16 / 2 ^ 4

/-- The channel after one block (R106). -/
def afterBlock (c : Channel) : Channel :=
  { c with
    amp := word (c.amp.toNat + 1024 * c.astep.toNat)
    phase := word (c.phase.toNat + 1024 * c.pstep.toNat) }

/-- A command word is illegal on a block with `nosc` channels: the four conditions of R66. -/
def specIllegal (nosc : Nat) (w : Word) : Prop :=
  w.extractLsb' 0 4 ∉ [0x1#4, 0x2#4, 0x3#4, 0x4#4, 0x8#4, 0x9#4] ∨
  (w.extractLsb' 16 16 ≠ 0#16 ∨ w.extractLsb' 4 4 ≠ 0#4) ∨
  (w.extractLsb' 0 4 ∈ [0x1#4, 0x2#4, 0x3#4, 0x4#4] ∧ w.extractLsb' 8 8 ≠ 0#8) ∨
  (w.extractLsb' 0 4 ∈ [0x8#4, 0x9#4] ∧ nosc ≤ (w.extractLsb' 8 8).toNat)

/-- `SET ch, target, freq` and then one ITER of channel `ch`, once for each frequency word of the list
(R107, R154: the intended order of use). -/
def setAndIterate (ch : ChannelNo) (target ign : Word) : List Word → State → Result
  | [], s => .next s
  | freq :: rest, s =>
    match exec (.set ch target freq) s with
    | .next s1 =>
      match exec (.iter ch 0x00000400#32 ign) s1 with
      | .next s2 => setAndIterate ch target ign rest s2
      | r => r
    | r => r

/-- The channel a command is addressed to (R63). -/
def addressed : Instr → Option Nat
  | .add _ _ => none
  | .sub _ _ => none
  | .neg _ _ => none
  | .mul _ _ => none
  | .set ch _ _ => some ch.toNat
  | .iter ch _ _ => some ch.toNat

/-- The host action resets the block (R126, R150, R151). -/
def Input.resets : Input → Prop
  | .command _ => False
  | .reset => True
  | .resetDuring _ => True
  | .attach => False
  | .fill _ _ => False

end Sys2Proof.Machine

open Sys2Proof Sys2Proof.Machine

/-! ## The ALU -/

/-- R80, R81, R82: the three wrapping functions in their unsigned and signed readings. They are total, so
they never fault. -/
def Obligations.WrappingFunctions : Prop :=
  ∀ a b : Word,
    add32 a b = word (a.toNat + b.toNat) ∧ add32 a b = word (a.toInt + b.toInt) ∧
    sub32 a b = word (a.toNat - b.toNat) ∧ sub32 a b = word (a.toInt - b.toInt) ∧
    sub32 a b = add32 a (neg32 b) ∧
    neg32 a = word (-a.toNat) ∧ neg32 a = word (2 ^ 32 - a.toNat) ∧
    neg32 0x00000000#32 = 0x00000000#32 ∧ neg32 0x80000000#32 = 0x80000000#32

/-- R90: the laws of ADD, SUB and NEG, and its two examples of overflow. -/
def Obligations.AdditionLaws : Prop :=
  (∀ a b c : Word,
    add32 a b = add32 b a ∧ add32 (add32 a b) c = add32 a (add32 b c) ∧
    add32 a 0x00000000#32 = a ∧ add32 a (neg32 a) = 0x00000000#32 ∧
    sub32 a b = add32 a (neg32 b) ∧ add32 (sub32 a b) b = a ∧
    (add32 a b).toNat = (a.toNat + b.toNat) % 2 ^ 32) ∧
  add32 0x75300000#32 0x75300000#32 = 0xEA600000#32 ∧ fromFloat (30000 : ℝ) = 0x75300000#32 ∧
  fromFloat (60000 : ℝ) = 0xEA600000#32 ∧ (0xEA600000#32 : Word).toInt = -5536 * 65536

/-- R85: ADD responds the sum, for every pair of words, and changes nothing but the response port; its
command word is `0x00000001`; its corner cases and its example. -/
def Obligations.AddCompletes : Prop :=
  (∀ (a b : Word) (s : State), s.status = 0x0#4 →
    exec (.add a b) s = .next { s with response := some ⟨0x0#4, some (word (a.toNat + b.toNat))⟩ } ∧
    issue ⟨0x00000001#32, a, b⟩ s =
      .next { s with response := some ⟨0x0#4, some (word (a.toNat + b.toNat))⟩ }) ∧
  (∀ a : Word, add32 a 0#32 = a ∧ add32 a a = word (2 * a.toNat)) ∧
  add32 0x7FFFFFFF#32 0x00000001#32 = 0x80000000#32 ∧
  add32 0xFFFFFFFF#32 0x00000001#32 = 0x00000000#32 ∧
  add32 0x80000000#32 0x80000000#32 = 0x00000000#32 ∧
  add32 0x00018000#32 0x00024000#32 = 0x0003C000#32

/-- R86: SUB responds `a - b`, for every pair of words, and changes nothing but the response port. -/
def Obligations.SubCompletes : Prop :=
  (∀ (a b : Word) (s : State), s.status = 0x0#4 →
    exec (.sub a b) s = .next { s with response := some ⟨0x0#4, some (word (a.toNat - b.toNat))⟩ } ∧
    issue ⟨0x00000002#32, a, b⟩ s =
      .next { s with response := some ⟨0x0#4, some (word (a.toNat - b.toNat))⟩ }) ∧
  (∀ a : Word, sub32 a a = 0#32 ∧ sub32 0#32 a = neg32 a) ∧
  sub32 0x00000000#32 0x00000001#32 = 0xFFFFFFFF#32 ∧
  sub32 0x80000000#32 0x00000001#32 = 0x7FFFFFFF#32 ∧
  sub32 0x7FFFFFFF#32 0xFFFFFFFF#32 = 0x80000000#32 ∧
  sub32 0x8AD00000#32 0x75300000#32 = 0x15A00000#32

/-- R87: NEG responds the two's-complement negation of `a`, whatever `B` is, and changes nothing but the
response port. -/
def Obligations.NegCompletes : Prop :=
  (∀ (a b : Word) (s : State), s.status = 0x0#4 →
    exec (.neg a b) s = .next { s with response := some ⟨0x0#4, some (word (-a.toNat))⟩ } ∧
    issue ⟨0x00000003#32, a, b⟩ s =
      .next { s with response := some ⟨0x0#4, some (word (-a.toNat))⟩ }) ∧
  (∀ a : Word, neg32 (neg32 a) = a) ∧
  neg32 0x00000000#32 = 0x00000000#32 ∧ neg32 0x80000000#32 = 0x80000000#32 ∧
  neg32 0x00000001#32 = 0xFFFFFFFF#32 ∧ neg32 0x000C0000#32 = 0xFFF40000#32 ∧
  neg32 0xFFF40000#32 = 0x000C0000#32

/-- R88, R91: where the magnitude product is below `2^48`, MUL responds the product of the signed readings
divided by 65536 and truncated toward zero, and changes nothing but the response port. -/
def Obligations.MulCompletes : Prop :=
  ∀ (a b : Word) (s : State), s.status = 0x0#4 → a.toInt.natAbs * b.toInt.natAbs < 2 ^ 48 →
    exec (.mul a b) s =
      .next { s with response := some ⟨0x0#4, some (word ((a.toInt * b.toInt).tdiv 65536))⟩ } ∧
    issue ⟨0x00000004#32, a, b⟩ s =
      .next { s with response := some ⟨0x0#4, some (word ((a.toInt * b.toInt).tdiv 65536))⟩ }

/-- R122: where the rescaled magnitude product does not fit in 32 bits, MUL faults with cause 4, gives no
result word and stores nothing. -/
def Obligations.MulRangeFaults : Prop :=
  ∀ (a b : Word) (s : State), s.status = 0x0#4 →
    2 ^ 32 ≤ a.toInt.natAbs * b.toInt.natAbs / 2 ^ 16 →
    exec (.mul a b) s = .next { s with status := 0xC#4, response := some ⟨0xC#4, none⟩ }

/-- R91: `mul32` in closed form, and the consequences the rule lists. -/
def Obligations.MulClosedForm : Prop :=
  (∀ a b : Word, mul32 a b =
    if 2 ^ 48 ≤ a.toInt.natAbs * b.toInt.natAbs then none
    else some (word ((a.toInt * b.toInt).tdiv 65536))) ∧
  (∀ a b : Word, mul32 a b = mul32 b a) ∧
  (∀ a : Word, mul32 a 0#32 = some 0#32 ∧ mul32 0#32 a = some 0#32 ∧
    mul32 a 0x00010000#32 = some a ∧ mul32 a 0xFFFF0000#32 = some (neg32 a)) ∧
  (∀ a b r r' : Word, a ≠ 0x80000000#32 → mul32 a b = some r → mul32 (neg32 a) b = some r' →
    r' = neg32 r) ∧
  (∃ a b c ab bc l r : Word, mul32 a b = some ab ∧ mul32 ab c = some l ∧ mul32 b c = some bc ∧
    mul32 a bc = some r ∧ l ≠ r) ∧
  (∃ a b c ab ac r : Word, mul32 a b = some ab ∧ mul32 a c = some ac ∧
    mul32 a (add32 b c) = some r ∧ r ≠ add32 ab ac)

/-- R94, in integers (`real(a) * real(b)` is `p / 2^32`): below `32768.0` the truncated product exactly; from
there to `65536.0` its wrapped image, with the wrong sign unless the truncated product is `-32768.0`; from
`65536.0` on a fault. -/
def Obligations.MulRealMeaning : Prop :=
  ∀ a b : Word, ∀ p t : Int, p = a.toInt * b.toInt → t = p.tdiv 65536 →
    (p.natAbs < 2 ^ 47 → ∃ r, mul32 a b = some r ∧ r.toInt = t) ∧
    (2 ^ 47 ≤ p.natAbs ∧ p.natAbs < 2 ^ 48 → ∃ r, mul32 a b = some r ∧ (2 ^ 32 : Int) ∣ r.toInt - t ∧
      (p = -2 ^ 47 → r = 0x80000000#32) ∧ (t ≠ -2 ^ 31 → (r.toInt < 0 ↔ 0 < t))) ∧
    (2 ^ 48 ≤ p.natAbs → mul32 a b = none)

/-- R93: both magnitudes are at most `2^31` and their product fits 64 bits, so the 32-bit check on `p` is the
only way `mul32` fails. -/
def Obligations.MulProductFits64 : Prop :=
  ∀ a b : Word, magnitude a ≤ 2 ^ 31 ∧ magnitude b ≤ 2 ^ 31 ∧ magnitude a * magnitude b ≤ 2 ^ 62 ∧
    (mul32 a b = none ↔ 2 ^ 32 ≤ magnitude a * magnitude b / 2 ^ 16)

/-- R84: `asr32` is the floor of the signed reading over `2^n`, bit by bit the shifted word with copies of the
sign, and the three examples of the rule. -/
def Obligations.AsrIsArithmeticShift : Prop :=
  (∀ (a : Word) (n : Nat), n ≤ 31 →
    asr32 a n = word (a.toInt / 2 ^ n) ∧
    (∀ i, i < 32 - n → (asr32 a n).getLsbD i = a.getLsbD (i + n)) ∧
    (∀ i, 32 - n ≤ i → i < 32 → (asr32 a n).getLsbD i = a.getLsbD 31)) ∧
  asr32 0xFFFFFFFF#32 10 = 0xFFFFFFFF#32 ∧ asr32 0xFFFFFBFF#32 10 = 0xFFFFFFFE#32 ∧
  asr32 0x000003FF#32 10 = 0x00000000#32

/-- R95, on the reals: `fromFloat x` is the word of an integer within one half of `65536 x`, and of
`65536 x` itself where that is an integer; and on the rationals, where it can be evaluated, it is the same
function. -/
def Obligations.FromFloatIsNearest : Prop :=
  (∀ x : ℝ, (∃ k : Int, fromFloat x = word k ∧ |x * 65536 - k| ≤ 1 / 2) ∧
    ∀ n : Int, x * 65536 = n → fromFloat x = word n) ∧
  ∀ q : ℚ, fromFloat (q : ℝ) = fromFloat q

/-- R96: for all reals the rounded integers of a sum differ by at most one from the sum of the rounded
integers, so the words differ by at most one LSB; both are equal where the scaled values are integers. -/
def Obligations.FromFloatOfSum : Prop :=
  ∀ x y : ℝ,
    |roundNearest (x * 65536) + roundNearest (y * 65536) - roundNearest ((x + y) * 65536)| ≤ 1 ∧
    (add32 (fromFloat x) (fromFloat y) = fromFloat (x + y) ∨
     add32 (fromFloat x) (fromFloat y) = add32 (fromFloat (x + y)) 1#32 ∨
     add32 (fromFloat x) (fromFloat y) = sub32 (fromFloat (x + y)) 1#32) ∧
    ∀ m n : Int, x * 65536 = m → y * 65536 = n →
      add32 (fromFloat x) (fromFloat y) = fromFloat (x + y)

/-! ## The sine ROM -/

/-- R52: every ROM word is `fromFloat` of the exact real sine of `2*pi*i/4096`, and is the integer nearest to
65536 times it. The inequality is strict, so no entry is a tie and none depends on `ROUND_TIE`. -/
def Obligations.RomMatchesSine : Prop :=
  ∀ i : Nat, i < 4096 →
    romWord i = fromFloat (Real.sin (2 * Real.pi * i / 4096)) ∧
    |((romWord i).toInt : ℝ) - 65536 * Real.sin (2 * Real.pi * i / 4096)| < 1 / 2

/-- R54, R55: the symmetries of the ROM, its reconstruction from the first 1025 words, its bounds, where they
are attained, and that its first quarter does not decrease. -/
def Obligations.RomShape : Prop :=
  (∀ i : Nat, i ≤ 1024 → romWord (2048 - i) = romWord i) ∧
  (∀ i : Nat, i < 2048 → romWord (2048 + i) = neg32 (romWord i)) ∧
  romWord 0 = 0x00000000#32 ∧ romWord 2048 = 0x00000000#32 ∧
  romWord 1024 = 0x00010000#32 ∧ romWord 3072 = 0xFFFF0000#32 ∧
  (∀ i : Nat, i < 4096 → romWord i =
    if i < 2048 then word (quarter (if i % 2048 > 1024 then 2048 - i % 2048 else i % 2048))
    else word (2 ^ 32 - quarter (if i % 2048 > 1024 then 2048 - i % 2048 else i % 2048))) ∧
  (∀ i : Nat, i < 4096 → (romWord i).toInt.natAbs ≤ 65536 ∧
    ((romWord i).toInt = 65536 ↔ 1022 ≤ i ∧ i ≤ 1026) ∧
    (romWord i = 0xFFFF0000#32 ↔ 3070 ≤ i ∧ i ≤ 3074)) ∧
  (∀ i : Nat, i < 1024 → (romWord i).toInt ≤ (romWord (i + 1)).toInt)

/-- spec/21_sine_rom.md section 3: the check values of the table. -/
def Obligations.RomCheckValues : Prop :=
  ((List.range 1025).map quarter).sum = 42755593 ∧
  ((List.range 4096).map fun i => (romWord i).toNat).sum % 2 ^ 32 = 0 ∧
  ((List.range 4096).map fun i => (romWord i).toNat).foldl Nat.xor 0 = 0xFFFE0000 ∧
  ((List.range 4096).map fun i => i * (romWord i).toNat).sum % 2 ^ 32 = 0x419F7000 ∧
  ((List.range 1024).map fun i => (romWord i).toNat).sum % 2 ^ 32 = 0x028B6609 ∧
  ((List.range 1024).map fun i => (romWord (1024 + i)).toNat).sum % 2 ^ 32 = 0x028C6609 ∧
  ((List.range 1024).map fun i => (romWord (2048 + i)).toNat).sum % 2 ^ 32 = 0xFD7499F7 ∧
  ((List.range 1024).map fun i => (romWord (3072 + i)).toNat).sum % 2 ^ 32 = 0xFD7399F7

/-- R103: the ROM index is `p[15:4]`, below 4096, and depends on the low 16 bits of the phase alone. -/
def Obligations.RomIndexIsPhaseFraction : Prop :=
  ∀ p : Word, romIndex p = (p.extractLsb' 4 12).toNat ∧
    romIndex p = p.toNat % 2 ^ 16 / 2 ^ 4 ∧ romIndex p < 4096 ∧
    ∀ q : Word, q.extractLsb' 4 12 = p.extractLsb' 4 12 → romIndex q = romIndex p

/-! ## SET -/

/-- R100: SET on a channel of the block recomputes both steps of that channel and changes nothing else but
the response port; its command word is `0x0000cc08`; a channel not below `NOSC` is an illegal command; its
corner cases; a second SET overwrites the first; its example. -/
def Obligations.SetCompletes : Prop :=
  (∀ (ch : ChannelNo) (a b : Word) (s : State) (c : Channel), s.status = 0x0#4 →
    s.channels[ch.toNat]? = some c →
    ∃ t, t = { s with
        channels := s.channels.set ch.toNat
          { c with astep := asr32 (sub32 a c.amp) 10, pstep := asr32 b 10 }
        response := some ⟨0x0#4, some 0x00000000#32⟩ } ∧
      exec (.set ch a b) s = .next t ∧
      issue ⟨BitVec.ofNat 32 (ch.toNat * 256 + 8), a, b⟩ s = .next t ∧
      ∀ a' b' : Word, exec (.set ch a' b') t = exec (.set ch a' b') s) ∧
  (∀ (ch : ChannelNo) (a b : Word) (s : State), s.status = 0x0#4 → s.nosc ≤ ch.toNat →
    exec (.set ch a b) s = .next { s with status := 0xD#4, response := some ⟨0xD#4, none⟩ }) ∧
  (∀ a amp : Word,
    (a = amp → asr32 (sub32 a amp) 10 = 0#32) ∧
    (0 ≤ (sub32 a amp).toInt ∧ (sub32 a amp).toInt < 1024 → asr32 (sub32 a amp) 10 = 0#32) ∧
    (-1024 ≤ (sub32 a amp).toInt ∧ (sub32 a amp).toInt < 0 →
      asr32 (sub32 a amp) 10 = 0xFFFFFFFF#32)) ∧
  (∀ b : Word, b.getLsbD 31 = true → (asr32 b 10).toInt < 0) ∧ asr32 0#32 10 = 0#32 ∧
  sub32 0x00010000#32 0#32 = 0x00010000#32 ∧ asr32 0x00010000#32 10 = 0x00000040#32 ∧
  asr32 0x01000000#32 10 = 0x00004000#32

/-- R112: after SET the phase step is `freq >> 10` whatever it was before, and the first sample of the next
block advances the phase by it. -/
def Obligations.SetFrequencySnaps : Prop :=
  ∀ (ch : ChannelNo) (a b old : Word) (s : State) (c : Channel), s.status = 0x0#4 →
    s.channels[ch.toNat]? = some c →
    ∃ t c', exec (.set ch a b) s = .next t ∧
      exec (.set ch a b) { s with channels := s.channels.set ch.toNat { c with pstep := old } } = .next t ∧
      t.channels[ch.toNat]? = some c' ∧ c'.pstep = asr32 b 10 ∧
      ∀ m w, sampleStep t.bufGen c'.astep c'.pstep ⟨c'.amp, c'.phase, 0#10, m⟩ = .ok w →
        w.p = add32 c'.phase (asr32 b 10)

/-! ## ITER -/

/-- R106: an ITER of length 1024 on a channel of a running block completes; the channel has advanced by 1024
steps, every buffer word has had its sample added, and nothing else but the response port has changed. -/
def Obligations.IterCompletes : Prop :=
  ∀ (ch : ChannelNo) (b : Word) (s : State) (c : Channel), s.status = 0x0#4 →
    s.channels[ch.toNat]? = some c →
    ∃ t, exec (.iter ch 0x00000400#32 b) s = .next t ∧
      t = { s with
        buf := t.buf
        channels := s.channels.set ch.toNat (afterBlock c)
        response := some ⟨0x0#4, some 0x00000000#32⟩ } ∧
      ∀ k : BufIndex, ∃ g, mul32 (ampAt c k.toNat) (romWord (indexAt c k.toNat)) = some g ∧
        t.bufWord k = add32 (s.bufWord k) g

/-- R121: an ITER whose declared length is not exactly 1024 faults with cause 2 before it reads or writes
anything; the length is not stored. -/
def Obligations.IterSizeMismatch : Prop :=
  ∀ (ch : ChannelNo) (len b : Word) (s : State), s.status = 0x0#4 → ch.toNat < s.nosc →
    len.toNat ≠ 1024 →
    exec (.iter ch len b) s = .next { s with status := 0xA#4, response := some ⟨0xA#4, none⟩ }

/-- R105: no sample of ITER raises, whatever the amplitude, the phase and the steps: the index is in range,
the multiply does not raise, and it wraps in exactly one case. -/
def Obligations.IterCannotFault : Prop :=
  (∀ p : Word, romIndex p < 4096) ∧
  (∀ (a : Word) (i : Nat), i < 4096 →
    a.toInt.natAbs * (romWord i).toInt.natAbs ≤ 2 ^ 47 ∧
    ∃ r, mul32 a (romWord i) = some r ∧
      (r.toInt = (a.toInt * (romWord i).toInt).tdiv 65536 ↔
        ¬ (a = 0x80000000#32 ∧ romWord i = 0xFFFF0000#32)) ∧
      (a = 0x80000000#32 ∧ romWord i = 0xFFFF0000#32 → r = 0x80000000#32)) ∧
  (∀ (gen : Nat) (da dp : Word) (n : Nat) (w : IterWork), ∃ w', samples gen da dp n w = .ok w')

/-- R107: SET to a target and one block leave the amplitude below the target by the low 10 bits of the
difference, exactly at it when they are zero; and for ever after, however often SET to the same target, with
any frequency, and a block follow, the amplitude stays where it is and the step is zero. -/
def Obligations.RampLaw : Prop :=
  ∀ (ch : ChannelNo) (target freq ign : Word) (s : State) (c : Channel) (gap : Nat), s.status = 0x0#4 →
    s.channels[ch.toNat]? = some c → gap = (sub32 target c.amp).toNat % 1024 →
    ∃ s1 s2 c2,
      exec (.set ch target freq) s = .next s1 ∧ exec (.iter ch 0x400#32 ign) s1 = .next s2 ∧
      s2.channels[ch.toNat]? = some c2 ∧
      c2.astep = asr32 (sub32 target c.amp) 10 ∧
      word (1024 * c2.astep.toNat) = word ((sub32 target c.amp).toNat - gap) ∧
      c2.amp = sub32 target (word gap) ∧ (gap = 0 → c2.amp = target) ∧ gap ≤ 1023 ∧
      sub32 target c2.amp = word gap ∧
      ∀ freqs : List Word, ∃ s' c', setAndIterate ch target ign freqs s2 = .next s' ∧
        s'.channels[ch.toNat]? = some c' ∧ c'.amp = c2.amp ∧ (freqs ≠ [] → c'.astep = 0#32)

/-- R110: with both steps zero, ITER adds one and the same word to every buffer position and leaves the
registers unchanged; with amplitude 1.0 that word is the ROM word the phase selects. -/
def Obligations.ConstantOutput : Prop :=
  ∀ (ch : ChannelNo) (b : Word) (s : State) (c : Channel), s.status = 0x0#4 →
    s.channels[ch.toNat]? = some c → c.astep = 0#32 → c.pstep = 0#32 →
    ∃ t g, mul32 c.amp (romWord (c.phase.extractLsb' 4 12).toNat) = some g ∧
      exec (.iter ch 0x400#32 b) s = .next t ∧ t.channels = s.channels ∧
      (∀ k : BufIndex, t.bufWord k = add32 (s.bufWord k) g) ∧
      (c.amp = 0x00010000#32 → g = romWord (c.phase.extractLsb' 4 12).toNat)

/-- R111: two ITERs of two channels on one buffer commute, and leave in every word the sum of what was there
and of what each channel would have written into an all-zero buffer. -/
def Obligations.AdditiveMixing : Prop :=
  ∀ (ch1 ch2 : ChannelNo) (b1 b2 : Word) (s : State), s.status = 0x0#4 → ch1 ≠ ch2 →
    ch1.toNat < s.nosc → ch2.toNat < s.nosc →
    ∃ t1 t12 t2 t21,
      exec (.iter ch1 0x400#32 b1) s = .next t1 ∧ exec (.iter ch2 0x400#32 b2) t1 = .next t12 ∧
      exec (.iter ch2 0x400#32 b2) s = .next t2 ∧ exec (.iter ch1 0x400#32 b1) t2 = .next t21 ∧
      t12.channels = t21.channels ∧ (∀ k : BufIndex, t12.bufWord k = t21.bufWord k) ∧
      ∀ z : Memory, (∀ k : BufIndex, bufRead s.bufGen z k = 0#32) →
        ∃ u1 u2, exec (.iter ch1 0x400#32 b1) { s with buf := z } = .next u1 ∧
          exec (.iter ch2 0x400#32 b2) { s with buf := z } = .next u2 ∧
          ∀ k : BufIndex,
            t12.bufWord k = add32 (add32 (s.bufWord k) (u1.bufWord k)) (u2.bufWord k)

/-- R109, the part about the output: two frequency words that agree in bits 25:10 give the same block. -/
def Obligations.FrequencyBitsThatMatter : Prop :=
  ∀ (ch : ChannelNo) (a f f' b : Word) (s : State), s.status = 0x0#4 → ch.toNat < s.nosc →
    f.extractLsb' 10 16 = f'.extractLsb' 10 16 →
    ∃ s1 t s1' t', exec (.set ch a f) s = .next s1 ∧ exec (.iter ch 0x400#32 b) s1 = .next t ∧
      exec (.set ch a f') s = .next s1' ∧ exec (.iter ch 0x400#32 b) s1' = .next t' ∧
      ∀ k : BufIndex, t.bufWord k = t'.bufWord k

/-- R104, R111: what the buffer holds never reaches the oscillator registers, `STATUS` or the response. -/
def Obligations.BufferNeverFeedsBack : Prop :=
  ∀ (i : Instr) (s t : State) (m : Memory) (g : Nat), exec i s = .next t →
    ∃ t', exec i { s with buf := m, bufGen := g } = .next t' ∧ t'.channels = t.channels ∧
      t'.status = t.status ∧ t'.response = t.response

/-! ## Faults -/

/-- R66, R123: exactly the command words of R66 raise IllegalCommand, whatever the operands, with no other
effect; every other command is one of the six, well formed. -/
def Obligations.IllegalExactly : Prop :=
  ∀ (c : Command) (s : State), s.status = 0x0#4 →
    (specIllegal s.nosc c.cmd →
      issue c s = .next { s with status := 0xD#4, response := some ⟨0xD#4, none⟩ }) ∧
    (¬ specIllegal s.nosc c.cmd →
      ∃ i t, decode c = .ok i ∧ i.wellFormed s.nosc = true ∧ issue c s = exec i s ∧
        issue c s = .next t ∧ t.status ≠ 0xD#4)

/-- R124: a command that leaves `STATUS` non-zero has raised SizeMismatch, MulRange or IllegalCommand, has
changed `STATUS` and the response port only, and has raised the `fault` line. -/
def Obligations.FaultEntryIsPrecise : Prop :=
  ∀ (c : Command) (s t : State), s.status = 0x0#4 → issue c s = .next t → t.status ≠ 0x0#4 →
    ∃ f : FaultCause, f ∈ [FaultCause.sizeMismatch, FaultCause.mulRange, FaultCause.illegalCommand] ∧
      t = { s with status := t.status, response := some ⟨t.status, none⟩ } ∧
      t.status.toNat = 8 + f.code.toNat ∧ t.cause = f.code ∧ t.faultLine = true

/-- R125: in the faulted state every command, legal or not, gets a response with the unchanged `STATUS` and
changes nothing else. -/
def Obligations.FaultedBlockOnlyAnswers : Prop :=
  ∀ (c : Command) (s : State), s.faulted = true →
    issue c s = .next { s with response := some ⟨s.status, none⟩ }

/-- R126: a step of a faulted block keeps `STATUS` and the registers, unless it takes a reset, which zeroes
both. -/
def Obligations.OnlyResetClearsFault : Prop :=
  ∀ s t : State, s.faulted = true → step s = .next t →
    (t.status = s.status ∧ t.channels = s.channels) ∨
    (∃ x rest, s.inputs = x :: rest ∧ x.resets ∧ t.status = 0x0#4 ∧
      t.channels = List.replicate s.nosc Channel.zero)

/-- R126 over a run: as long as the host does not reset the block, a recorded fault stays and so do the
registers. -/
def Obligations.FaultLastsUntilReset : Prop :=
  ∀ (k : Nat) (s : State), s.faulted = true → (∀ x ∈ s.inputs.take k, ¬ x.resets) →
    ∃ t : State, Sys2Proof.core.run k s = .next t ∧ t.status = s.status ∧ t.channels = s.channels

/-- R128: the priority of the conditions one ITER can meet. -/
def Obligations.FaultPriority : Prop :=
  ∀ (ch : ChannelNo) (len b : Word) (s : State),
    (s.faulted = true →
      exec (.iter ch len b) s = .next { s with response := some ⟨s.status, none⟩ }) ∧
    (s.status = 0x0#4 → s.nosc ≤ ch.toNat →
      exec (.iter ch len b) s = .next { s with status := 0xD#4, response := some ⟨0xD#4, none⟩ }) ∧
    (s.status = 0x0#4 → ch.toNat < s.nosc → len.toNat ≠ 1024 →
      exec (.iter ch len b) s = .next { s with status := 0xA#4, response := some ⟨0xA#4, none⟩ })

/-! ## Who changes what -/

/-- R14: the registers of a channel change only by reset, by SET of that channel, which keeps `AMP` and
`PHASE`, or by ITER of that channel, which keeps both steps. -/
def Obligations.ChannelWriters : Prop :=
  ∀ (s t : State) (k : Nat), step s = .next t → t.channels[k]? ≠ s.channels[k]? →
    ∃ x rest, s.inputs = x :: rest ∧
      (x.resets ∨
        ∃ c i r r', x = .command c ∧ decode c = .ok i ∧ addressed i = some k ∧
          s.channels[k]? = some r ∧ t.channels[k]? = some r' ∧
          (((∃ ch a b, i = .set ch a b) ∧ r'.amp = r.amp ∧ r'.phase = r.phase) ∨
           ((∃ ch a b, i = .iter ch a b) ∧ r'.astep = r.astep ∧ r'.pstep = r.pstep)))

/-- R14: a command never reads a register of a channel it is not addressed to: with other registers there,
it does the same and leaves them alone. -/
def Obligations.ChannelsAreIsolated : Prop :=
  ∀ (i : Instr) (s t : State) (k : Nat) (r : Channel), addressed i ≠ some k → exec i s = .next t →
    exec i { s with channels := s.channels.set k r } =
      .next { t with channels := t.channels.set k r }

/-- R38, R26: a buffer word changes only by an ITER that passes its checks, by such an ITER cut off by a
reset, or by the host. -/
def Obligations.BufferWriters : Prop :=
  ∀ (s t : State) (k : BufIndex), step s = .next t → t.bufWord k ≠ s.bufWord k →
    ∃ x rest, s.inputs = x :: rest ∧
      (x = .attach ∨ (∃ v, x = .fill k v) ∨
        ∃ c ch len b, (x = .command c ∨ x = .resetDuring c) ∧ decode c = .ok (.iter ch len b) ∧
          s.faulted = false ∧ ch.toNat < s.nosc ∧ len.toNat = 1024)

/-- R34, R42, R153: the host's write of one buffer word between commands changes that word and no other, and
attaching another buffer leaves the block alone. Three things here are the model's own choice: that
these are steps (log entry 3), that the response port keeps the last response over them, which the frame says
(log entry 5), and what an attached buffer holds (log entry 19), of which nothing is said. -/
def Obligations.HostBufferActions : Prop :=
  (∀ (s : State) (i : BufIndex) (v : Word) (rest : List Input), s.inputs = .fill i v :: rest →
    ∃ t, step s = .next t ∧ t = { s with buf := t.buf, inputs := rest } ∧
      ∀ k : BufIndex, t.bufWord k = if k = i then v else s.bufWord k) ∧
  (∀ (s : State) (rest : List Input), s.inputs = .attach :: rest →
    ∃ t, step s = .next t ∧ t = { s with buf := t.buf, bufGen := t.bufGen, inputs := rest })

/-! ## Reset -/

/-- R22, R23: after reset every register of every channel is zero, `STATUS` is `0x0` and no command is
executing (a command is one step); for every number of channels, and for the reset state of this machine. -/
def Obligations.ResetValues : Prop :=
  (∀ n : Nat, (State.resetWith n).nosc = n ∧
    (∀ ch : ChannelNo, ch.toNat < n → (State.resetWith n).observe ch = some ⟨0#32, 0#32, 0#32, 0#32⟩) ∧
    (State.resetWith n).status = 0x0#4 ∧ (State.resetWith n).faulted = false ∧
    (State.resetWith n).cause = 0#3) ∧
  State.reset = State.resetWith State.reset.nosc

/-- R150: the reset input zeroes every register and `STATUS`, lowers the `fault` line and leaves the buffer
and the number of channels alone. That the response port is then empty is the model's choice (log entry
5). -/
def Obligations.ResetInput : Prop :=
  ∀ (s : State) (rest : List Input), s.inputs = .reset :: rest →
    ∃ t, step s = .next t ∧ t.faultLine = false ∧
      t = { s with
        channels := List.replicate s.nosc ⟨0#32, 0#32, 0#32, 0#32⟩
        status := 0x0#4
        response := none
        inputs := rest }

/-- R151: a reset that arrives while a command runs ends it without a response, gives the registers their
reset values, and leaves each buffer word either as it was or as the command would have left it. That the
response port is then empty, even of an earlier response, is the model's choice (log entry 5). -/
def Obligations.ResetDuringCommand : Prop :=
  ∀ (s : State) (c : Command) (rest : List Input), s.inputs = .resetDuring c :: rest →
    ∃ t done, step s = .next t ∧ issue c { s with inputs := rest } = .next done ∧
      t = { s with
        channels := List.replicate s.nosc ⟨0#32, 0#32, 0#32, 0#32⟩
        status := 0x0#4
        response := none
        inputs := rest
        buf := t.buf
        resetGen := t.resetGen } ∧
      ∀ k : BufIndex, t.bufWord k = s.bufWord k ∨ t.bufWord k = done.bufWord k

/-! ## Encoding and the step -/

/-- R62, R63, R65: a command decodes to an instruction exactly when it is that instruction's encoding, with
every operand and channel at every value, so decode and encode agree in both directions. -/
def Obligations.DecodeEncodeAgree : Prop :=
  ∀ (c : Command) (i : Instr), decode c = .ok i ↔ encode i = c

/-- R65: the command words of the opcode map, written out. -/
def Obligations.OpcodeMapWords : Prop :=
  ∀ a b : Word,
    decode ⟨0x00000001#32, a, b⟩ = .ok (.add a b) ∧ decode ⟨0x00000002#32, a, b⟩ = .ok (.sub a b) ∧
    decode ⟨0x00000003#32, a, b⟩ = .ok (.neg a b) ∧ decode ⟨0x00000004#32, a, b⟩ = .ok (.mul a b) ∧
    decode ⟨0x00000108#32, a, b⟩ = .ok (.set 1#8 a b) ∧
    decode ⟨0x0000FF09#32, a, b⟩ = .ok (.iter 255#8 a b) ∧
    decode ⟨0x00000000#32, a, b⟩ = .error .opcode

/-- R60: a step at which a command is next runs the instruction it decodes to, on the state without that
command; and `withFetchWord` makes its command the next one. That the pending host actions stand in a list
and how a command is laid out in one number are the model's choices (log entries 3 and 13). -/
def Obligations.StepRunsDecoded : Prop :=
  (∀ (s : State) (c : Command) (rest : List Input) (i : Instr), s.inputs = .command c :: rest →
    decode c = .ok i → step s = exec i { s with inputs := rest }) ∧
  (∀ (s : State) (nbits w : Nat) (i : Instr), decodeTableWord nbits w = some i →
    step (s.withFetchWord nbits w) = exec i s)

/-- R61: every command gets a response that carries `STATUS` as it stands after it; it has a result exactly
when `STATUS` is `0x0`: the ALU result, and zero for SET and ITER. The premise is that `STATUS` has a value
R18 allows. -/
def Obligations.EveryCommandIsAnswered : Prop :=
  ∀ (s : State) (c : Command) (rest : List Input), legalStatus s.status = true →
    s.inputs = .command c :: rest →
    ∃ t r, step s = .next t ∧ t.response = some r ∧ r.status = t.status ∧
      (t.status ≠ 0x0#4 → r.r = none) ∧
      (t.status = 0x0#4 → r.r.isSome = true ∧ ∃ i, decode c = .ok i ∧ r.r =
        match i with
        | .add a b => some (add32 a b)
        | .sub a b => some (sub32 a b)
        | .neg a _ => some (neg32 a)
        | .mul a b => mul32 a b
        | .set _ _ _ => some 0#32
        | .iter _ _ _ => some 0#32)

/-- R159: no command can hang: from every state a step answers a next state. That an idle step is one too is
the model's choice (log entry 11). -/
def Obligations.StepAlwaysAnswers : Prop :=
  ∀ s : State, ∃ t, step s = .next t

/-- The invariant of legal states, which every step keeps: a number of channels that R5 allows, a `STATUS`
that R18 allows, a buffer in canonical form, and a response port that agrees with `STATUS`. The last two
clauses are the model's: the form of the buffer is log entry 4 (DEDUCED), and that the port keeps the last
response over the host's buffer actions and that a reset empties it is log entry 5 (DESIGN CHOICE). -/
def Obligations.StepKeepsLegal : Prop :=
  ∀ s t : State, s.Legal → step s = .next t → t.Legal ∧ t.nosc = s.nosc

/-- The invariant holds at reset, for every legal number of channels. The empty response port, the two
channels of `State.reset` and the form of the buffer are the model's (log entries 5, 1 and 4). -/
def Obligations.ResetIsLegal : Prop :=
  State.reset.Legal ∧ ∀ n : Nat, 1 ≤ n → n ≤ 256 → (State.resetWith n).Legal
end

