-- ==== Sys2Proof/Laws/Arith.lean ====
section
/-! SUPPORT. The arithmetic functions in the terms of Lean's own bit vectors, and when `mul32` raises. -/

namespace Sys2Proof.Machine

theorem word_natCast (n : Nat) : word n = BitVec.ofNat 32 n := by
  apply BitVec.eq_of_toNat_eq
  simp [word]

theorem add32_eq (a b : Word) : add32 a b = a + b := by
  apply BitVec.eq_of_toNat_eq
  simp only [add32, word, BitVec.toNat_ofInt, BitVec.toNat_add]
  omega

theorem sub32_eq (a b : Word) : sub32 a b = a - b := by
  apply BitVec.eq_of_toNat_eq
  have := a.isLt
  have := b.isLt
  simp only [sub32, word, BitVec.toNat_ofInt, BitVec.toNat_sub]
  omega

theorem neg32_eq (a : Word) : neg32 a = -a := by
  apply BitVec.eq_of_toNat_eq
  have := a.isLt
  simp only [neg32, word, BitVec.toNat_ofInt, BitVec.toNat_neg]
  omega

/-- The magnitude is the absolute value of the signed reading (R83 points 1 and 2). -/
theorem magnitude_eq (a : Word) : magnitude a = a.toInt.natAbs := by
  have := a.isLt
  have hm : a.msb = decide (2 ^ 31 ≤ a.toNat) := BitVec.msb_eq_decide a
  have hi := BitVec.toInt_eq_toNat_cond a
  unfold magnitude
  by_cases h : 2 ^ 31 ≤ a.toNat
  · rw [hm, if_pos (by simpa using h), hi, if_neg (by omega)]
    omega
  · rw [hm, if_neg (by simpa using h), hi, if_pos (by omega)]
    omega

/-- `mul32` raises exactly when the rescaled product does not fit in 32 bits (R83 points 3 and 4). -/
theorem mul32_eq_none_iff (a b : Word) : mul32 a b = none ↔ 2 ^ 32 ≤ rescaledProduct a b := by
  unfold mul32
  by_cases h : 2 ^ 32 ≤ rescaledProduct a b
  · exact ⟨fun _ => h, fun _ => if_pos h⟩
  · refine ⟨fun hn => ?_, fun hp => absurd hp h⟩
    simp only [if_neg h] at hn
    split at hn <;> cases hn

/-- What `mul32` answers when it does not raise (R83). -/
theorem mul32_eq_some {a b : Word} (h : rescaledProduct a b < 2 ^ 32) :
    mul32 a b = some (if a.msb = b.msb then word (rescaledProduct a b)
      else word (2 ^ 32 - rescaledProduct a b)) := by
  unfold mul32
  rw [if_neg (by omega)]
  split <;> simp_all

end Sys2Proof.Machine
end

