-- ==== Sys2Proof/Laws/Memory.lean ====
section
/-! SUPPORT. The sample buffer: a read after a write, the canonical form, and the buffer of an ITER that a
reset cut off. -/

namespace Sys2Proof.Machine

/-- A read after a write, at the written index and at any other (R33, R34). -/
theorem Memory.read?_write (m : Memory) (i k : Nat) (v : Word) :
    (m.write i v).read? k = if i = k then some v else m.read? k := by
  induction m with
  | nil => simp [Memory.write, Memory.read?]
  | cons e rest ih =>
    obtain ⟨j, w⟩ := e
    unfold Memory.write
    by_cases h1 : i < j
    · rw [if_pos h1]
      rfl
    · by_cases h2 : i = j
      · rw [if_neg h1, if_pos h2]
        subst h2
        unfold Memory.read?
        split <;> rfl
      · rw [if_neg h1, if_neg h2]
        unfold Memory.read?
        by_cases h3 : j = k
        · rw [if_pos h3, if_pos h3, if_neg (by omega)]
        · rw [if_neg h3, if_neg h3, ih]

/-- The canonical form with a smaller lower bound. -/
theorem Memory.risingFrom_mono {lo lo' : Nat} {m : Memory} (h : lo' ≤ lo)
    (hm : m.risingFrom lo = true) : m.risingFrom lo' = true := by
  cases m with
  | nil => rfl
  | cons e rest =>
    obtain ⟨j, w⟩ := e
    simp only [Memory.risingFrom, Bool.and_eq_true, decide_eq_true_eq] at hm ⊢
    exact ⟨⟨by omega, hm.1.2⟩, hm.2⟩

/-- A write inside the buffer keeps the entries rising. -/
theorem Memory.risingFrom_write {lo i : Nat} (m : Memory) (v : Word) (hlo : lo ≤ i)
    (hi : i < Config.blockLen) (hm : m.risingFrom lo = true) : (m.write i v).risingFrom lo = true := by
  induction m generalizing lo with
  | nil => simp [Memory.write, Memory.risingFrom, hlo, hi]
  | cons e rest ih =>
    obtain ⟨j, w⟩ := e
    simp only [Memory.risingFrom, Bool.and_eq_true, decide_eq_true_eq] at hm
    obtain ⟨⟨hj, hjN⟩, hrest⟩ := hm
    by_cases h1 : i < j
    · have h2 : i + 1 ≤ j := h1
      simp [Memory.write, Memory.risingFrom, h1, h2, hlo, hi, hjN, hrest]
    · by_cases h2 : i = j
      · subst h2
        simp [Memory.write, Memory.risingFrom, hlo, hi, hrest]
      · simp [Memory.write, Memory.risingFrom, h1, h2, hj, hjN, ih (by omega) hrest]

/-- Every write keeps the canonical form (R34). -/
theorem Memory.wf_write {i : Nat} (m : Memory) (v : Word) (hi : i < Config.blockLen)
    (hm : m.wf = true) : (m.write i v).wf = true :=
  Memory.risingFrom_write m v (Nat.zero_le i) hi hm

/-- A 10-bit index is inside the buffer (R33). -/
theorem bufIndex_lt (i : BufIndex) : i.toNat < Config.blockLen := i.isLt

/-- `MemWrite` keeps the canonical form (R34). -/
theorem bufWrite_wf (m : Memory) (i : BufIndex) (v : Word) (hm : m.wf = true) :
    (bufWrite m i v).wf = true :=
  Memory.wf_write m v (bufIndex_lt i) hm

/-- Nothing is listed after reset, so the canonical form holds (R25). -/
theorem resetWith_buf_wf (n : Nat) : (State.resetWith n).buf.wf = true := rfl

/-- `MemRead` after `MemWrite`: the written word, and every other word as before (R33, R34). -/
theorem bufRead_bufWrite (gen : Nat) (m : Memory) (i k : BufIndex) (v : Word) :
    bufRead gen (bufWrite m i v) k = if i = k then v else bufRead gen m k := by
  unfold bufRead bufWrite
  rw [Memory.read?_write]
  by_cases h : i = k
  · simp [h]
  · have h' : i.toNat ≠ k.toNat := fun e => h (BitVec.eq_of_toNat_eq e)
    simp [h, h']

/-- What a cut-off buffer reads as: below `n` the old word or the new one, from `n` on the old (R151). -/
theorem cutOffBuffer_read? (gen : Nat) (old new : Memory) (n k : Nat) :
    (cutOffBuffer gen old new n).read? k = old.read? k ∨
      (k < n ∧ ∃ v, new.read? k = some v ∧ (cutOffBuffer gen old new n).read? k = some v) := by
  induction n with
  | zero => exact .inl rfl
  | succ n ih =>
    have lift : ∀ m, m = cutOffBuffer gen old new n → m.read? k = old.read? k ∨
        (k < n + 1 ∧ ∃ v, new.read? k = some v ∧ m.read? k = some v) := by
      rintro m rfl
      exact ih.imp id fun ⟨h, r⟩ => ⟨by omega, r⟩
    simp only [cutOffBuffer]
    split
    · exact lift _ rfl
    · next v hv =>
      split
      · rw [Memory.read?_write]
        by_cases h : n = k
        · subst h
          exact .inr ⟨Nat.lt_succ_self n, v, hv, by simp⟩
        · rw [if_neg h]
          exact lift _ rfl
      · exact lift _ rfl

/-- A cut-off buffer keeps the canonical form. -/
theorem cutOffBuffer_wf (gen : Nat) (old new : Memory) (n : Nat) (hn : n ≤ Config.blockLen)
    (h : old.wf = true) : (cutOffBuffer gen old new n).wf = true := by
  induction n with
  | zero => exact h
  | succ n ih =>
    have hm := ih (by omega)
    simp only [cutOffBuffer]
    split
    · exact hm
    · split
      · exact Memory.wf_write _ _ (by omega) hm
      · exact hm

end Sys2Proof.Machine
end

