-- ==== Sys2Proof/Laws/State.lean ====
section
/-! SUPPORT. One lemma per field per update of State, each true by rfl. -/

namespace Sys2Proof.Machine.State

@[simp] theorem setChannels_channels (s : State) (v : List Channel) : (s.setChannels v).channels = v := rfl
@[simp] theorem setChannels_status (s : State) (v : List Channel) : (s.setChannels v).status = s.status := rfl
@[simp] theorem setChannels_buf (s : State) (v : List Channel) : (s.setChannels v).buf = s.buf := rfl
@[simp] theorem setChannels_response (s : State) (v : List Channel) : (s.setChannels v).response = s.response := rfl
@[simp] theorem setChannels_inputs (s : State) (v : List Channel) : (s.setChannels v).inputs = s.inputs := rfl
@[simp] theorem setChannels_bufGen (s : State) (v : List Channel) : (s.setChannels v).bufGen = s.bufGen := rfl
@[simp] theorem setChannels_resetGen (s : State) (v : List Channel) : (s.setChannels v).resetGen = s.resetGen := rfl

@[simp] theorem setStatus_channels (s : State) (v : BitVec 4) : (s.setStatus v).channels = s.channels := rfl
@[simp] theorem setStatus_status (s : State) (v : BitVec 4) : (s.setStatus v).status = v := rfl
@[simp] theorem setStatus_buf (s : State) (v : BitVec 4) : (s.setStatus v).buf = s.buf := rfl
@[simp] theorem setStatus_response (s : State) (v : BitVec 4) : (s.setStatus v).response = s.response := rfl
@[simp] theorem setStatus_inputs (s : State) (v : BitVec 4) : (s.setStatus v).inputs = s.inputs := rfl
@[simp] theorem setStatus_bufGen (s : State) (v : BitVec 4) : (s.setStatus v).bufGen = s.bufGen := rfl
@[simp] theorem setStatus_resetGen (s : State) (v : BitVec 4) : (s.setStatus v).resetGen = s.resetGen := rfl

@[simp] theorem setBuf_channels (s : State) (v : Memory) : (s.setBuf v).channels = s.channels := rfl
@[simp] theorem setBuf_status (s : State) (v : Memory) : (s.setBuf v).status = s.status := rfl
@[simp] theorem setBuf_buf (s : State) (v : Memory) : (s.setBuf v).buf = v := rfl
@[simp] theorem setBuf_response (s : State) (v : Memory) : (s.setBuf v).response = s.response := rfl
@[simp] theorem setBuf_inputs (s : State) (v : Memory) : (s.setBuf v).inputs = s.inputs := rfl
@[simp] theorem setBuf_bufGen (s : State) (v : Memory) : (s.setBuf v).bufGen = s.bufGen := rfl
@[simp] theorem setBuf_resetGen (s : State) (v : Memory) : (s.setBuf v).resetGen = s.resetGen := rfl

@[simp] theorem setResponse_channels (s : State) (v : Option Response) : (s.setResponse v).channels = s.channels := rfl
@[simp] theorem setResponse_status (s : State) (v : Option Response) : (s.setResponse v).status = s.status := rfl
@[simp] theorem setResponse_buf (s : State) (v : Option Response) : (s.setResponse v).buf = s.buf := rfl
@[simp] theorem setResponse_response (s : State) (v : Option Response) : (s.setResponse v).response = v := rfl
@[simp] theorem setResponse_inputs (s : State) (v : Option Response) : (s.setResponse v).inputs = s.inputs := rfl
@[simp] theorem setResponse_bufGen (s : State) (v : Option Response) : (s.setResponse v).bufGen = s.bufGen := rfl
@[simp] theorem setResponse_resetGen (s : State) (v : Option Response) : (s.setResponse v).resetGen = s.resetGen := rfl

@[simp] theorem setInputs_channels (s : State) (v : List Input) : (s.setInputs v).channels = s.channels := rfl
@[simp] theorem setInputs_status (s : State) (v : List Input) : (s.setInputs v).status = s.status := rfl
@[simp] theorem setInputs_buf (s : State) (v : List Input) : (s.setInputs v).buf = s.buf := rfl
@[simp] theorem setInputs_response (s : State) (v : List Input) : (s.setInputs v).response = s.response := rfl
@[simp] theorem setInputs_inputs (s : State) (v : List Input) : (s.setInputs v).inputs = v := rfl
@[simp] theorem setInputs_bufGen (s : State) (v : List Input) : (s.setInputs v).bufGen = s.bufGen := rfl
@[simp] theorem setInputs_resetGen (s : State) (v : List Input) : (s.setInputs v).resetGen = s.resetGen := rfl

@[simp] theorem setBufGen_channels (s : State) (v : Nat) : (s.setBufGen v).channels = s.channels := rfl
@[simp] theorem setBufGen_status (s : State) (v : Nat) : (s.setBufGen v).status = s.status := rfl
@[simp] theorem setBufGen_buf (s : State) (v : Nat) : (s.setBufGen v).buf = s.buf := rfl
@[simp] theorem setBufGen_response (s : State) (v : Nat) : (s.setBufGen v).response = s.response := rfl
@[simp] theorem setBufGen_inputs (s : State) (v : Nat) : (s.setBufGen v).inputs = s.inputs := rfl
@[simp] theorem setBufGen_bufGen (s : State) (v : Nat) : (s.setBufGen v).bufGen = v := rfl
@[simp] theorem setBufGen_resetGen (s : State) (v : Nat) : (s.setBufGen v).resetGen = s.resetGen := rfl

@[simp] theorem setResetGen_channels (s : State) (v : Nat) : (s.setResetGen v).channels = s.channels := rfl
@[simp] theorem setResetGen_status (s : State) (v : Nat) : (s.setResetGen v).status = s.status := rfl
@[simp] theorem setResetGen_buf (s : State) (v : Nat) : (s.setResetGen v).buf = s.buf := rfl
@[simp] theorem setResetGen_response (s : State) (v : Nat) : (s.setResetGen v).response = s.response := rfl
@[simp] theorem setResetGen_inputs (s : State) (v : Nat) : (s.setResetGen v).inputs = s.inputs := rfl
@[simp] theorem setResetGen_bufGen (s : State) (v : Nat) : (s.setResetGen v).bufGen = s.bufGen := rfl
@[simp] theorem setResetGen_resetGen (s : State) (v : Nat) : (s.setResetGen v).resetGen = v := rfl

@[simp] theorem resetWith_channels (n : Nat) : (resetWith n).channels = List.replicate n Channel.zero := rfl
@[simp] theorem resetWith_status (n : Nat) : (resetWith n).status = 0x0#4 := rfl
@[simp] theorem resetWith_buf (n : Nat) : (resetWith n).buf = [] := rfl
@[simp] theorem resetWith_response (n : Nat) : (resetWith n).response = none := rfl
@[simp] theorem resetWith_inputs (n : Nat) : (resetWith n).inputs = [] := rfl

end Sys2Proof.Machine.State
end

