-- ==== Sys2Proof/Laws/Updates.lean ====
section
/-! SUPPORT. The fields of the state after each named operation, each true by rfl. -/

namespace Sys2Proof.Machine.State

@[simp] theorem setChannel_channels (s : State) (ch : ChannelNo) (c : Channel) :
    (s.setChannel ch c).channels = s.channels.set ch.toNat c := rfl
@[simp] theorem setChannel_status (s : State) (ch : ChannelNo) (c : Channel) :
    (s.setChannel ch c).status = s.status := rfl
@[simp] theorem setChannel_buf (s : State) (ch : ChannelNo) (c : Channel) :
    (s.setChannel ch c).buf = s.buf := rfl
@[simp] theorem setChannel_response (s : State) (ch : ChannelNo) (c : Channel) :
    (s.setChannel ch c).response = s.response := rfl
@[simp] theorem setChannel_inputs (s : State) (ch : ChannelNo) (c : Channel) :
    (s.setChannel ch c).inputs = s.inputs := rfl
@[simp] theorem setChannel_bufGen (s : State) (ch : ChannelNo) (c : Channel) :
    (s.setChannel ch c).bufGen = s.bufGen := rfl
@[simp] theorem setChannel_resetGen (s : State) (ch : ChannelNo) (c : Channel) :
    (s.setChannel ch c).resetGen = s.resetGen := rfl

@[simp] theorem respond_channels (s : State) (r : Word) :
    (s.respond r).channels = s.channels := rfl
@[simp] theorem respond_status (s : State) (r : Word) :
    (s.respond r).status = s.status := rfl
@[simp] theorem respond_buf (s : State) (r : Word) :
    (s.respond r).buf = s.buf := rfl
@[simp] theorem respond_response (s : State) (r : Word) :
    (s.respond r).response = some ⟨s.status, some r⟩ := rfl
@[simp] theorem respond_inputs (s : State) (r : Word) :
    (s.respond r).inputs = s.inputs := rfl
@[simp] theorem respond_bufGen (s : State) (r : Word) :
    (s.respond r).bufGen = s.bufGen := rfl
@[simp] theorem respond_resetGen (s : State) (r : Word) :
    (s.respond r).resetGen = s.resetGen := rfl

@[simp] theorem raise_channels (s : State) (c : FaultCause) :
    (s.raise c).channels = s.channels := rfl
@[simp] theorem raise_status (s : State) (c : FaultCause) :
    (s.raise c).status = c.status := rfl
@[simp] theorem raise_buf (s : State) (c : FaultCause) :
    (s.raise c).buf = s.buf := rfl
@[simp] theorem raise_response (s : State) (c : FaultCause) :
    (s.raise c).response = some ⟨c.status, none⟩ := rfl
@[simp] theorem raise_inputs (s : State) (c : FaultCause) :
    (s.raise c).inputs = s.inputs := rfl
@[simp] theorem raise_bufGen (s : State) (c : FaultCause) :
    (s.raise c).bufGen = s.bufGen := rfl
@[simp] theorem raise_resetGen (s : State) (c : FaultCause) :
    (s.raise c).resetGen = s.resetGen := rfl

@[simp] theorem answerFaulted_channels (s : State) :
    (s.answerFaulted).channels = s.channels := rfl
@[simp] theorem answerFaulted_status (s : State) :
    (s.answerFaulted).status = s.status := rfl
@[simp] theorem answerFaulted_buf (s : State) :
    (s.answerFaulted).buf = s.buf := rfl
@[simp] theorem answerFaulted_response (s : State) :
    (s.answerFaulted).response = some ⟨s.status, none⟩ := rfl
@[simp] theorem answerFaulted_inputs (s : State) :
    (s.answerFaulted).inputs = s.inputs := rfl
@[simp] theorem answerFaulted_bufGen (s : State) :
    (s.answerFaulted).bufGen = s.bufGen := rfl
@[simp] theorem answerFaulted_resetGen (s : State) :
    (s.answerFaulted).resetGen = s.resetGen := rfl

@[simp] theorem applyReset_channels (s : State) :
    (s.applyReset).channels = s.channels.map fun _ => Channel.zero := rfl
@[simp] theorem applyReset_status (s : State) :
    (s.applyReset).status = 0x0#4 := rfl
@[simp] theorem applyReset_buf (s : State) :
    (s.applyReset).buf = s.buf := rfl
@[simp] theorem applyReset_response (s : State) :
    (s.applyReset).response = none := rfl
@[simp] theorem applyReset_inputs (s : State) :
    (s.applyReset).inputs = s.inputs := rfl
@[simp] theorem applyReset_bufGen (s : State) :
    (s.applyReset).bufGen = s.bufGen := rfl
@[simp] theorem applyReset_resetGen (s : State) :
    (s.applyReset).resetGen = s.resetGen := rfl

@[simp] theorem applyResetDuring_channels (s : State) (done : State) :
    (s.applyResetDuring done).channels = s.channels.map fun _ => Channel.zero := rfl
@[simp] theorem applyResetDuring_status (s : State) (done : State) :
    (s.applyResetDuring done).status = 0x0#4 := rfl
@[simp] theorem applyResetDuring_buf (s : State) (done : State) :
    (s.applyResetDuring done).buf = cutOffBuffer s.resetGen s.buf done.buf Config.blockLen := rfl
@[simp] theorem applyResetDuring_response (s : State) (done : State) :
    (s.applyResetDuring done).response = none := rfl
@[simp] theorem applyResetDuring_inputs (s : State) (done : State) :
    (s.applyResetDuring done).inputs = s.inputs := rfl
@[simp] theorem applyResetDuring_bufGen (s : State) (done : State) :
    (s.applyResetDuring done).bufGen = s.bufGen := rfl
@[simp] theorem applyResetDuring_resetGen (s : State) (done : State) :
    (s.applyResetDuring done).resetGen = s.resetGen + 1 := rfl

@[simp] theorem attachBuffer_channels (s : State) :
    (s.attachBuffer).channels = s.channels := rfl
@[simp] theorem attachBuffer_status (s : State) :
    (s.attachBuffer).status = s.status := rfl
@[simp] theorem attachBuffer_buf (s : State) :
    (s.attachBuffer).buf = [] := rfl
@[simp] theorem attachBuffer_response (s : State) :
    (s.attachBuffer).response = s.response := rfl
@[simp] theorem attachBuffer_inputs (s : State) :
    (s.attachBuffer).inputs = s.inputs := rfl
@[simp] theorem attachBuffer_bufGen (s : State) :
    (s.attachBuffer).bufGen = s.bufGen + 1 := rfl
@[simp] theorem attachBuffer_resetGen (s : State) :
    (s.attachBuffer).resetGen = s.resetGen := rfl

@[simp] theorem fillWord_channels (s : State) (i : BufIndex) (v : Word) :
    (s.fillWord i v).channels = s.channels := rfl
@[simp] theorem fillWord_status (s : State) (i : BufIndex) (v : Word) :
    (s.fillWord i v).status = s.status := rfl
@[simp] theorem fillWord_buf (s : State) (i : BufIndex) (v : Word) :
    (s.fillWord i v).buf = bufWrite s.buf i v := rfl
@[simp] theorem fillWord_response (s : State) (i : BufIndex) (v : Word) :
    (s.fillWord i v).response = s.response := rfl
@[simp] theorem fillWord_inputs (s : State) (i : BufIndex) (v : Word) :
    (s.fillWord i v).inputs = s.inputs := rfl
@[simp] theorem fillWord_bufGen (s : State) (i : BufIndex) (v : Word) :
    (s.fillWord i v).bufGen = s.bufGen := rfl
@[simp] theorem fillWord_resetGen (s : State) (i : BufIndex) (v : Word) :
    (s.fillWord i v).resetGen = s.resetGen := rfl

@[simp] theorem present_channels (s : State) (x : Input) :
    (s.present x).channels = s.channels := rfl
@[simp] theorem present_status (s : State) (x : Input) :
    (s.present x).status = s.status := rfl
@[simp] theorem present_buf (s : State) (x : Input) :
    (s.present x).buf = s.buf := rfl
@[simp] theorem present_response (s : State) (x : Input) :
    (s.present x).response = s.response := rfl
@[simp] theorem present_inputs (s : State) (x : Input) :
    (s.present x).inputs = x :: s.inputs := rfl
@[simp] theorem present_bufGen (s : State) (x : Input) :
    (s.present x).bufGen = s.bufGen := rfl
@[simp] theorem present_resetGen (s : State) (x : Input) :
    (s.present x).resetGen = s.resetGen := rfl

/-- Whether the block is faulted depends on `STATUS` alone (R18). -/
theorem faulted_congr {s t : State} (h : s.status = t.status) : s.faulted = t.faulted := by
  simp only [faulted, h]

@[simp] theorem setChannels_faulted (s : State) (v : List Channel) : (s.setChannels v).faulted = s.faulted := rfl
@[simp] theorem setBuf_faulted (s : State) (v : Memory) : (s.setBuf v).faulted = s.faulted := rfl
@[simp] theorem setResponse_faulted (s : State) (v : Option Response) : (s.setResponse v).faulted = s.faulted := rfl
@[simp] theorem setInputs_faulted (s : State) (v : List Input) : (s.setInputs v).faulted = s.faulted := rfl
@[simp] theorem answerFaulted_faulted (s : State) : s.answerFaulted.faulted = s.faulted := rfl
@[simp] theorem attachBuffer_faulted (s : State) : s.attachBuffer.faulted = s.faulted := rfl
@[simp] theorem fillWord_faulted (s : State) (i : BufIndex) (v : Word) : (s.fillWord i v).faulted = s.faulted := rfl
@[simp] theorem applyReset_faulted (s : State) : s.applyReset.faulted = false := by simp [faulted]

/-- Every fault sets `FAULTED` (R124). -/
theorem faultStatus_faulted (c : FaultCause) : c.status.getLsbD 3 = true := by cases c <;> decide

@[simp] theorem raise_faulted (s : State) (c : FaultCause) : (s.raise c).faulted = true := faultStatus_faulted c

end Sys2Proof.Machine.State
end

