-- ==== Sys2Proof/Laws/Ops.lean ====
section
/-! SUPPORT. One lemma for each shared operation and each meaning, saying once everything it can do, and
one for a step. -/

namespace Sys2Proof.Machine

/-- The first priority of R128: a faulted block only answers, a running one runs. -/
theorem whenRunning_cases {s t : State} {run : Result} (h : whenRunning s run = .next t) :
    (s.faulted = true ∧ t = s.answerFaulted) ∨ (s.faulted = false ∧ run = .next t) := by
  unfold whenRunning at h
  split at h
  · next hf => exact .inl ⟨hf, by cases h; rfl⟩
  · next hf => exact .inr ⟨by simpa using hf, h⟩

@[simp] theorem whenRunning_running {s : State} (h : s.faulted = false) (run : Result) :
    whenRunning s run = run := by
  simp [whenRunning, h]

@[simp] theorem whenRunning_faulted {s : State} (h : s.faulted = true) (run : Result) :
    whenRunning s run = .next s.answerFaulted := by
  simp [whenRunning, h]

/-- `STATUS = 0x0` is running (R18). -/
theorem faulted_of_status_zero {s : State} (h : s.status = 0x0#4) : s.faulted = false := by
  simp [State.faulted, h]

theorem illegalCommand_cases {s t : State} (h : illegalCommand s = .next t) :
    (s.faulted = true ∧ t = s.answerFaulted) ∨ (s.faulted = false ∧ t = s.raise .illegalCommand) :=
  (whenRunning_cases h).imp id fun ⟨hf, hr⟩ => ⟨hf, by cases hr; rfl⟩

theorem execAdd_cases {a b : Word} {s t : State} (h : execAdd a b s = .next t) :
    (s.faulted = true ∧ t = s.answerFaulted) ∨ (s.faulted = false ∧ t = s.respond (add32 a b)) :=
  (whenRunning_cases h).imp id fun ⟨hf, hr⟩ => ⟨hf, by cases hr; rfl⟩

theorem execSub_cases {a b : Word} {s t : State} (h : execSub a b s = .next t) :
    (s.faulted = true ∧ t = s.answerFaulted) ∨ (s.faulted = false ∧ t = s.respond (sub32 a b)) :=
  (whenRunning_cases h).imp id fun ⟨hf, hr⟩ => ⟨hf, by cases hr; rfl⟩

theorem execNeg_cases {a b : Word} {s t : State} (h : execNeg a b s = .next t) :
    (s.faulted = true ∧ t = s.answerFaulted) ∨ (s.faulted = false ∧ t = s.respond (neg32 a)) :=
  (whenRunning_cases h).imp id fun ⟨hf, hr⟩ => ⟨hf, by cases hr; rfl⟩

theorem execMul_cases {a b : Word} {s t : State} (h : execMul a b s = .next t) :
    (s.faulted = true ∧ t = s.answerFaulted) ∨
    (s.faulted = false ∧ mul32 a b = none ∧ t = s.raise .mulRange) ∨
    (s.faulted = false ∧ ∃ r, mul32 a b = some r ∧ t = s.respond r) := by
  refine (whenRunning_cases h).imp id fun ⟨hf, hr⟩ => ?_
  split at hr
  · next hm => exact .inl ⟨hf, hm, by cases hr; rfl⟩
  · next r hm => exact .inr ⟨hf, r, hm, by cases hr; rfl⟩

theorem execSet_cases {ch : ChannelNo} {a b : Word} {s t : State} (h : execSet ch a b s = .next t) :
    (s.faulted = true ∧ t = s.answerFaulted) ∨
    (s.faulted = false ∧ s.channel? ch = none ∧ t = s.raise .illegalCommand) ∨
    (s.faulted = false ∧ ∃ c, s.channel? ch = some c ∧
      t = (s.setChannel ch
        { c with
          astep := asr32 (sub32 a c.amp) Config.bufBits
          pstep := asr32 b Config.bufBits }).respond 0#32) := by
  refine (whenRunning_cases h).imp id fun ⟨hf, hr⟩ => ?_
  split at hr
  · next hc => exact .inl ⟨hf, hc, by cases hr; rfl⟩
  · next c hc => exact .inr ⟨hf, c, hc, by cases hr; rfl⟩

theorem execIter_cases {ch : ChannelNo} {len b : Word} {s t : State}
    (h : execIter ch len b s = .next t) :
    (s.faulted = true ∧ t = s.answerFaulted) ∨
    (s.faulted = false ∧ s.channel? ch = none ∧ t = s.raise .illegalCommand) ∨
    (s.faulted = false ∧ ∃ c, s.channel? ch = some c ∧
      ((lenMatches len = false ∧ t = s.raise .sizeMismatch) ∨
       (lenMatches len = true ∧ ∃ e, iterBlock s.bufGen c s.buf = .error e ∧ t = s.raise e) ∨
       (lenMatches len = true ∧ ∃ w, iterBlock s.bufGen c s.buf = .ok w ∧
         t = ((s.setBuf w.buf).setChannel ch { c with amp := w.a, phase := w.p }).respond 0#32))) := by
  refine (whenRunning_cases h).imp id fun ⟨hf, hr⟩ => ?_
  split at hr
  · next hc => exact .inl ⟨hf, hc, by cases hr; rfl⟩
  · next c hc =>
    refine .inr ⟨hf, c, hc, ?_⟩
    split at hr
    · next hl =>
      split at hr
      · next e he => exact .inr (.inl ⟨hl, e, he, by cases hr; rfl⟩)
      · next w hw => exact .inr (.inr ⟨hl, w, hw, by cases hr; rfl⟩)
    · next hl => exact .inl ⟨by simpa using hl, by cases hr; rfl⟩

/-- Everything one sample can do (R102, R104). -/
theorem sampleStep_cases {gen : Nat} {da dp : Word} {w w' : IterWork}
    (h : sampleStep gen da dp w = .ok w') :
    ∃ smp, mul32 w.a (romWord (romIndex w.p)) = some smp ∧
      w' = ⟨add32 w.a da, add32 w.p dp, w.i + 1#10,
        bufWrite w.buf w.i (add32 (bufRead gen w.buf w.i) smp)⟩ := by
  unfold sampleStep at h
  simp only at h
  split at h
  · cases h
  · split at h
    · cases h
    · next smp hm => exact ⟨smp, hm, by cases h; rfl⟩

/-- One sample, when its multiply does not raise. -/
theorem sampleStep_ok {gen : Nat} {da dp smp : Word} {w : IterWork}
    (hi : romIndex w.p < Config.tableSize) (hm : mul32 w.a (romWord (romIndex w.p)) = some smp) :
    sampleStep gen da dp w = .ok ⟨add32 w.a da, add32 w.p dp, w.i + 1#10,
      bufWrite w.buf w.i (add32 (bufRead gen w.buf w.i) smp)⟩ := by
  unfold sampleStep
  simp only [hm]
  rw [if_neg (by omega)]

theorem samples_zero (gen : Nat) (da dp : Word) (w : IterWork) : samples gen da dp 0 w = .ok w := rfl

/-- The first of several samples (R43). -/
theorem samples_succ {gen : Nat} {da dp : Word} {n : Nat} {w w'' : IterWork}
    (h : samples gen da dp (n + 1) w = .ok w'') :
    ∃ w', sampleStep gen da dp w = .ok w' ∧ samples gen da dp n w' = .ok w'' := by
  simp only [samples] at h
  split at h
  · cases h
  · next w' hw => exact ⟨w', hw, h⟩

/-- The samples keep the buffer's canonical form. -/
theorem samples_wf {gen : Nat} {da dp : Word} (n : Nat) {w w' : IterWork}
    (h : samples gen da dp n w = .ok w') (hw : w.buf.wf = true) : w'.buf.wf = true := by
  induction n generalizing w with
  | zero => cases h; exact hw
  | succ n ih =>
    obtain ⟨w1, h1, h2⟩ := samples_succ h
    obtain ⟨smp, -, rfl⟩ := sampleStep_cases h1
    exact ih h2 (bufWrite_wf _ _ _ hw)

/-- Reset leaves as many channels as there are, all zero (R22). -/
theorem applyReset_channels_eq (s : State) :
    s.applyReset.channels = List.replicate s.nosc Channel.zero := by
  simp [State.nosc]

/-- Everything a step can do, by the host action it takes. -/
theorem step_cases {s t : State} (h : step s = .next t) :
    (s.inputs = [] ∧ t = s) ∨
    ∃ x rest, s.inputs = x :: rest ∧
      ((∃ c i, x = .command c ∧ decode c = .ok i ∧ exec i (s.setInputs rest) = .next t) ∨
       (∃ c e, x = .command c ∧ decode c = .error e ∧ illegalCommand (s.setInputs rest) = .next t) ∨
       (x = .reset ∧ t = (s.setInputs rest).applyReset) ∨
       (∃ c done, x = .resetDuring c ∧ issue c (s.setInputs rest) = .next done ∧
         t = (s.setInputs rest).applyResetDuring done) ∨
       (x = .attach ∧ t = (s.setInputs rest).attachBuffer) ∨
       (∃ i v, x = .fill i v ∧ t = (s.setInputs rest).fillWord i v)) := by
  unfold step at h
  split at h
  · next hi => exact .inl ⟨hi, by cases h; rfl⟩
  · next x rest hi =>
    refine .inr ⟨x, rest, hi, ?_⟩
    cases x with
    | command c =>
      simp only [takeInput, issue] at h
      split at h
      · next i hd => exact .inl ⟨c, i, rfl, hd, h⟩
      · next e hd => exact .inr (.inl ⟨c, e, rfl, hd, h⟩)
    | reset => exact .inr (.inr (.inl ⟨rfl, by cases h; rfl⟩))
    | resetDuring c =>
      simp only [takeInput] at h
      split at h
      · next done hd => exact .inr (.inr (.inr (.inl ⟨c, done, rfl, hd, by cases h; rfl⟩)))
      · cases h
      · cases h
    | attach => exact .inr (.inr (.inr (.inr (.inl ⟨rfl, by cases h; rfl⟩))))
    | fill i v => exact .inr (.inr (.inr (.inr (.inr ⟨i, v, rfl, by cases h; rfl⟩))))

end Sys2Proof.Machine
end

