-- ==== Sys2Proof/Laws/PerInstr.lean ====
section
/-! SUPPORT. Statements about every instruction as syntax, one lemma per constructor. -/

namespace Sys2Proof.Laws

/-- The reserved fields `rsv_hi` and `rsv_lo` of an encoded instruction are zero (R62). -/
def ReservedBitsZero.Statement (i : Instr) : Prop :=
  (encode i).rsvHi = 0#16 ∧ (encode i).rsvLo = 0#4

/-- A command word built from a channel and an opcode has zero reserved fields (R62). -/
theorem commandWord_reserved (ch : ChannelNo) (op : BitVec 4) (a b : Word) :
    (Command.mk (commandWord ch op) a b).rsvHi = 0#16 ∧ (Command.mk (commandWord ch op) a b).rsvLo = 0#4 := by
  constructor
  · ext i hi
    simp only [Command.rsvHi, commandWord, BitVec.getElem_extractLsb', BitVec.getLsbD_append,
      BitVec.getElem_zero, BitVec.getLsbD_zero]
    rw [if_neg (by omega), if_neg (by omega), if_neg (by omega)]
  · ext i hi
    simp only [Command.rsvLo, commandWord, BitVec.getElem_extractLsb', BitVec.getLsbD_append,
      BitVec.getElem_zero, BitVec.getLsbD_zero]
    rw [if_neg (by omega), if_pos (by omega)]

theorem ReservedBitsZero.add (a b : Word) : ReservedBitsZero.Statement (.add a b) :=
  commandWord_reserved _ _ a b

theorem ReservedBitsZero.sub (a b : Word) : ReservedBitsZero.Statement (.sub a b) :=
  commandWord_reserved _ _ a b

theorem ReservedBitsZero.neg (a b : Word) : ReservedBitsZero.Statement (.neg a b) :=
  commandWord_reserved _ _ a b

theorem ReservedBitsZero.mul (a b : Word) : ReservedBitsZero.Statement (.mul a b) :=
  commandWord_reserved _ _ a b

theorem ReservedBitsZero.set (ch : ChannelNo) (a b : Word) : ReservedBitsZero.Statement (.set ch a b) :=
  commandWord_reserved _ _ a b

theorem ReservedBitsZero.iter (ch : ChannelNo) (a b : Word) : ReservedBitsZero.Statement (.iter ch a b) :=
  commandWord_reserved _ _ a b

end Sys2Proof.Laws
end

