-- ==== Sys2Proof/Tests/Slice0.lean ====
section
/-! SUPPORT. The model's own tests: words written out from the spec's encodings, vectors of
spec/95_test_vectors.md and spec/40_alu.md R92, and for every statement with hypotheses a concrete state
that meets them together. -/

namespace Sys2Proof.Tests

open Sys2Proof Sys2Proof.Machine

/-! ## Small states -/

/-- A block with two channels, the first as given, at rest. -/
def block (c : Channel) : State := { State.reset with channels := [c, Channel.zero] }

/-- A running block with a moving oscillator and a few written buffer words. -/
def busy : State :=
  { block ⟨0x00012345#32, 0x00001234#32, 0x11#32, 0x777#32⟩ with
    buf := [(0, 5#32), (1, 6#32), (1023, 7#32)] }

/-- The same block after MulRange. -/
def dead : State := { busy with status := 0xC#4, response := some ⟨0xC#4, none⟩ }

/-- The state a step or a meaning leads to. -/
def after (r : Result) : Option State :=
  match r with
  | .next s => some s
  | .fault _ => none
  | .refused _ => none

/-- The response a step or a meaning leaves. -/
def answer (r : Result) : Option Response := (after r).bind (·.response)

/-! ## Well-formedness: one ill-formed term for each check (R66 condition 4) -/

theorem test_set_channel_out_of_range : (Instr.set 2#8 0#32 0#32).wellFormed 2 = false := by decide
theorem test_iter_channel_out_of_range : (Instr.iter 255#8 0x400#32 0#32).wellFormed 2 = false := by decide
theorem test_set_last_channel_ok : (Instr.set 255#8 0#32 0#32).wellFormed 256 = true := by decide

/-! ## Decoding: words written bit by bit from R62 and R65 -/

theorem test_decode_add :
    decode ⟨0b00000000000000000000000000000001#32, 7#32, 8#32⟩ = .ok (.add 7#32 8#32) := by decide
theorem test_decode_sub :
    decode ⟨0b00000000000000000000000000000010#32, 7#32, 8#32⟩ = .ok (.sub 7#32 8#32) := by decide
theorem test_decode_neg :
    decode ⟨0b00000000000000000000000000000011#32, 7#32, 8#32⟩ = .ok (.neg 7#32 8#32) := by decide
theorem test_decode_mul :
    decode ⟨0b00000000000000000000000000000100#32, 7#32, 8#32⟩ = .ok (.mul 7#32 8#32) := by decide
theorem test_decode_set :
    decode ⟨0b00000000000000001010010100001000#32, 7#32, 8#32⟩ = .ok (.set 0xA5#8 7#32 8#32) := by decide
theorem test_decode_iter :
    decode ⟨0b00000000000000001010010100001001#32, 7#32, 8#32⟩ = .ok (.iter 0xA5#8 7#32 8#32) := by decide

/-- spec/95_test_vectors.md section 3: words that spell no command. -/
theorem test_decode_rejects :
    decode ⟨0x00000000#32, 0#32, 0#32⟩ = .error .opcode ∧
    decode ⟨0x00000005#32, 0#32, 0#32⟩ = .error .opcode ∧
    decode ⟨0x0000000A#32, 0#32, 0#32⟩ = .error .opcode ∧
    decode ⟨0x0000000F#32, 0#32, 0#32⟩ = .error .opcode ∧
    decode ⟨0x00010001#32, 1#32, 1#32⟩ = .error .reservedBits ∧
    decode ⟨0x80000001#32, 0#32, 0#32⟩ = .error .reservedBits ∧
    decode ⟨0x00000011#32, 1#32, 1#32⟩ = .error .reservedBits ∧
    decode ⟨0x00000101#32, 1#32, 1#32⟩ = .error .aluChannel := by decide

/-- The worked encodings at the end of spec/30_encoding.md. -/
theorem test_worked_encodings :
    encode (.add 0x00018000#32 0x00024000#32) = ⟨0x00000001#32, 0x00018000#32, 0x00024000#32⟩ ∧
    encode (.sub 0#32 1#32) = ⟨0x00000002#32, 0#32, 1#32⟩ ∧
    encode (.negShort 0x000C0000#32) = ⟨0x00000003#32, 0x000C0000#32, 0#32⟩ ∧
    encode (.mul 0x000C0000#32 0x000D0000#32) = ⟨0x00000004#32, 0x000C0000#32, 0x000D0000#32⟩ ∧
    encode (.set 1#8 0x00008000#32 0x000A0000#32) = ⟨0x00000108#32, 0x00008000#32, 0x000A0000#32⟩ ∧
    encode (.iterShort 1#8) = ⟨0x00000109#32, 0x00000400#32, 0#32⟩ := by decide

/-- The operand words of a 96-bit number: `A` is bits 63:32 and `B` bits 95:64. -/
theorem test_decode_table_word :
    decodeTableWord 96 0x0002B6660001000000000108 = some (.set 1#8 0x00010000#32 0x0002B666#32) ∧
    decodeTableWord 32 0xFFFFFFFF00000002 = some (.sub 0#32 0#32) ∧ decodeTableWord 32 0 = none := by
  decide

/-- The first instruction after reset is the presented one. -/
theorem test_first_step_after_reset :
    answer (step (State.reset.withFetchWord 96 0x000000020000000100000001)) = some ⟨0x0#4, some 3#32⟩ := by
  decide

/-! ## The ALU -/

theorem test_add_wraps : answer (execAdd 0x7FFFFFFF#32 0x00000001#32 busy) = some ⟨0x0#4, some 0x80000000#32⟩ := by
  decide
theorem test_sub_order : answer (execSub 0x00018000#32 0x00024000#32 busy) = some ⟨0x0#4, some 0xFFFF4000#32⟩ := by
  decide
theorem test_neg_ignores_b : answer (execNeg 0x00000005#32 0xFFFFFFFF#32 busy) = some ⟨0x0#4, some 0xFFFFFFFB#32⟩ := by
  decide
theorem test_mul_truncates : answer (execMul 0xFFFE8000#32 0x00000001#32 busy) = some ⟨0x0#4, some 0xFFFFFFFF#32⟩ := by
  decide
theorem test_mul_range :
    after (execMul 0x01000000#32 0x01000000#32 busy) = some dead := by decide

/-- The table of spec/40_alu.md R92, first part. -/
def mulTable1 : List (Word × Word × Option Word) :=
  [(0x000C0000#32, 0x000D0000#32, some 0x009C0000#32),
   (0xFFFF0000#32, 0xFFFE0000#32, some 0x00020000#32),
   (0x000C0000#32, 0xFFF30000#32, some 0xFF640000#32),
   (0xFFF40000#32, 0x000D0000#32, some 0xFF640000#32),
   (0xFFF40000#32, 0xFFF30000#32, some 0x009C0000#32),
   (0x00018000#32, 0x00024000#32, some 0x00036000#32),
   (0xFFFE8000#32, 0x00024000#32, some 0xFFFCA000#32),
   (0x0000199A#32, 0x0000199A#32, some 0x0000028F#32),
   (0xFFFFE666#32, 0x0000199A#32, some 0xFFFFFD71#32),
   (0x00000001#32, 0x00000001#32, some 0x00000000#32),
   (0xFFFFFFFF#32, 0x00000001#32, some 0x00000000#32),
   (0xFFFFFFFF#32, 0xFFFFFFFF#32, some 0x00000000#32),
   (0x0000FFFF#32, 0x00000001#32, some 0x00000000#32),
   (0x00010000#32, 0x00000001#32, some 0x00000001#32),
   (0xFFFF0000#32, 0x00000001#32, some 0xFFFFFFFF#32),
   (0x00018000#32, 0x00000001#32, some 0x00000001#32),
   (0xFFFE8000#32, 0x00000001#32, some 0xFFFFFFFF#32),
   (0x00030000#32, 0x00005555#32, some 0x0000FFFF#32),
   (0xFFFD0000#32, 0x00005555#32, some 0xFFFF0001#32),
   (0x00000000#32, 0x80000000#32, some 0x00000000#32),
   (0x00000000#32, 0xFFFFFFFF#32, some 0x00000000#32),
   (0x80000000#32, 0x00010000#32, some 0x80000000#32)]

/-- The table of spec/40_alu.md R92, second part. -/
def mulTable2 : List (Word × Word × Option Word) :=
  [(0x80000000#32, 0xFFFF0000#32, some 0x80000000#32),
   (0x80000000#32, 0x00008000#32, some 0xC0000000#32),
   (0x80000000#32, 0x0001FFFF#32, some 0x00008000#32),
   (0x80000000#32, 0x00020000#32, none),
   (0x80000000#32, 0x80000000#32, none),
   (0x7FFFFFFF#32, 0x00010000#32, some 0x7FFFFFFF#32),
   (0x7FFFFFFF#32, 0x0001FFFF#32, some 0xFFFF7FFE#32),
   (0x7FFFFFFF#32, 0x00020000#32, some 0xFFFFFFFE#32),
   (0x7FFFFFFF#32, 0x7FFFFFFF#32, none),
   (0x00B50000#32, 0x00B50000#32, some 0x7FF90000#32),
   (0x00B60000#32, 0x00B60000#32, some 0x81640000#32),
   (0x00C80000#32, 0x00C80000#32, some 0x9C400000#32),
   (0x00FFFF00#32, 0x01000000#32, some 0xFFFF0000#32),
   (0x00FFFFFF#32, 0x01000000#32, some 0xFFFFFF00#32),
   (0x01000000#32, 0x01000000#32, none),
   (0xFF000000#32, 0x01000000#32, none),
   (0xFF000000#32, 0xFF000000#32, none),
   (0x12345678#32, 0x00009ABC#32, some 0x0B00DA73#32),
   (0xDEADBEEF#32, 0x00012345#32, some 0xDA1684DF#32),
   (0x00010000#32, 0xDEADBEEF#32, some 0xDEADBEEF#32),
   (0xFFFF0000#32, 0xDEADBEEF#32, some 0x21524111#32)]

theorem test_mul_table : (mulTable1 ++ mulTable2).all (fun r => mul32 r.1 r.2.1 == r.2.2) = true := by
  decide +kernel

/-- spec/95_test_vectors.md section 2.4. -/
theorem test_asr32 :
    asr32 0x000A377F#32 10 = 0x0000028D#32 ∧ asr32 0xFFFFFBFF#32 10 = 0xFFFFFFFE#32 ∧
    asr32 0xFFFF0001#32 10 = 0xFFFFFFC0#32 ∧ asr32 0x80000000#32 10 = 0xFFE00000#32 := by decide

/-- spec/40_alu.md R95. -/
theorem test_fromFloat :
    fromFloat (1 / 10 : ℚ) = 0x0000199A#32 ∧ fromFloat (-1 / 10 : ℚ) = 0xFFFFE666#32 ∧
    fromFloat (314159 / 100000 : ℚ) = 0x0003243F#32 ∧ fromFloat (32768 : ℚ) = 0x80000000#32 ∧
    fromFloat (400001 / 4 : ℚ) = 0x86A04000#32 := by decide +kernel

/-! ## The sine ROM: spot values of spec/21_sine_rom.md section 3 -/

theorem test_rom_spots :
    romWord 1 = 0x00000065#32 ∧ romWord 341 = 0x00007FE3#32 ∧ romWord 512 = 0x0000B505#32 ∧
    romWord 683 = 0x0000DDC5#32 ∧ romWord 2047 = 0x00000065#32 ∧ romWord 2049 = 0xFFFFFF9B#32 ∧
    romWord 2560 = 0xFFFF4AFB#32 ∧ romWord 3073 = 0xFFFF0000#32 ∧ romWord 4095 = 0xFFFFFF9B#32 := by
  decide +kernel

/-- spec/95_test_vectors.md S6. -/
theorem test_rom_index :
    romIndex 0x0000000F#32 = 0 ∧ romIndex 0x00003FF0#32 = 1023 ∧ romIndex 0x0000FFFF#32 = 4095 ∧
    romIndex 0x00010000#32 = 0 ∧ romIndex 0x12348765#32 = 0x876 ∧ romIndex 0xABCDC000#32 = 3072 := by
  decide

/-! ## The oscillator -/

/-- spec/95_test_vectors.md section 4.1, the tenth row. -/
theorem test_set_downward :
    (after (execSet 0#8 0x00004CCD#32 0x7FFFFFFF#32 (block ⟨0x00010000#32, 0#32, 0#32, 0#32⟩))).map (·.channels) =
      some [⟨0x00010000#32, 0#32, 0xFFFFFFD3#32, 0x001FFFFF#32⟩, Channel.zero] := by decide

/-- spec/95_test_vectors.md section 3: a bad channel and a bad length. -/
theorem test_iter_bad_channel_first :
    answer (execIter 2#8 7#32 0#32 busy) = some ⟨0xD#4, none⟩ ∧
    answer (execIter 0#8 0x80000400#32 0#32 busy) = some ⟨0xA#4, none⟩ := by decide

/-- The words a loop leaves in the first places of the buffer. -/
def firstWords (r : Except FaultCause IterWork) : List Word :=
  match r with
  | .ok w => w.buf.map (·.2)
  | .error _ => []

/-- A zero buffer of eight words. -/
def eightZeros : Memory := (List.range 8).map fun i => (i, 0#32)

/-- The first samples of program P2 (spec/95_test_vectors.md section 6). -/
theorem test_samples_P2 :
    firstWords (samples 0 0x40#32 0x4000#32 8 ⟨0#32, 0#32, 0#10, eightZeros⟩) =
      [0x00000000#32, 0x00000040#32, 0x00000000#32, 0xFFFFFF40#32,
       0x00000000#32, 0x00000140#32, 0x00000000#32, 0xFFFFFE40#32] := by decide +kernel

/-- The first samples of the general case of section 4.2, mixed into a buffer of fives. -/
theorem test_samples_mix :
    firstWords (samples 0 0x11#32 0x777#32 3
      ⟨0x00012345#32, 0x00001234#32, 0#10, [(0, 5#32), (1, 5#32), (2, 5#32)]⟩) =
      [0x00007DC3#32, 0x0000AB68#32, 0x0000D3AF#32] := by decide +kernel

/-! ## Faults and reset -/

theorem test_dead_answers :
    (after (step (dead.present (.command ⟨0xFFFFFFFF#32, 0#32, 0#32⟩)))) = some dead := by decide

theorem test_reset_revives :
    (after (step (dead.present .reset))).map (fun s => (s.status, s.channels, s.buf)) =
      some (0x0#4, [Channel.zero, Channel.zero], busy.buf) := by decide

/-! ## Witnesses: concrete states and operands that meet the hypotheses of a statement together -/

theorem witness_AddCompletes : busy.status = 0x0#4 := by decide
theorem witness_SubCompletes : busy.status = 0x0#4 := by decide
theorem witness_NegCompletes : busy.status = 0x0#4 := by decide

/-- The largest product below the threshold in R92 with this multiplier. -/
theorem witness_MulCompletes :
    busy.status = 0x0#4 ∧
    (0x00FFFFFF#32 : Word).toInt.natAbs * (0x01000000#32 : Word).toInt.natAbs < 2 ^ 48 := by decide

/-- The first fault on the diagonal (R92). -/
theorem witness_MulRangeFaults :
    busy.status = 0x0#4 ∧
    2 ^ 32 ≤ (0x01000000#32 : Word).toInt.natAbs * (0x01000000#32 : Word).toInt.natAbs / 2 ^ 16 := by decide

theorem witness_MulClosedForm :
    (0x7FFFFFFF#32 : Word) ≠ 0x80000000#32 ∧ mul32 0x7FFFFFFF#32 0x00010000#32 = some 0x7FFFFFFF#32 ∧
    mul32 (neg32 0x7FFFFFFF#32) 0x00010000#32 = some 0x80000001#32 := by decide

/-- The three ranges of `p` at their ends: `-2^47` and one product just below it, `2^48` and one just
below it. -/
theorem witness_MulRealMeaning :
    ((0x80000000#32 : Word).toInt * (0x00010000#32 : Word).toInt = -2 ^ 47) ∧
    ((0x7FFFFFFF#32 : Word).toInt * (0x00010000#32 : Word).toInt).natAbs < 2 ^ 47 ∧
    ((0x00FFFFFF#32 : Word).toInt * (0x01000000#32 : Word).toInt).natAbs < 2 ^ 48 ∧
    2 ^ 47 ≤ ((0x00FFFFFF#32 : Word).toInt * (0x01000000#32 : Word).toInt).natAbs ∧
    ((0x00FFFFFF#32 : Word).toInt * (0x01000000#32 : Word).toInt).tdiv 65536 ≠ -2 ^ 31 ∧
    2 ^ 48 ≤ ((0x01000000#32 : Word).toInt * (0x01000000#32 : Word).toInt).natAbs := by decide

theorem witness_AsrIsArithmeticShift : (31 : Nat) ≤ 31 ∧ 0 < 32 - 31 ∧ 32 - 31 ≤ 31 := by decide
theorem witness_FromFloatIsNearest : (5 / 2 : ℝ) * 65536 = (163840 : Int) := by norm_num
theorem witness_FromFloatOfSum :
    (3 / 2 : ℝ) * 65536 = (98304 : Int) ∧ (9 / 4 : ℝ) * 65536 = (147456 : Int) := by norm_num
theorem witness_RomMatchesSine : 4095 < 4096 := by decide
theorem witness_RomShape :
    1024 ≤ 1024 ∧ 2047 < 2048 ∧ 4095 < 4096 ∧ 1023 < 1024 ∧ (romWord 1026).toInt = 65536 ∧
    romWord 3070 = 0xFFFF0000#32 := by decide +kernel
theorem witness_RomIndexIsPhaseFraction :
    (0xFFFF123F#32 : Word).extractLsb' 4 12 = (0x00001230#32 : Word).extractLsb' 4 12 := by decide

theorem witness_SetCompletes :
    busy.status = 0x0#4 ∧
    busy.channels[(0#8 : ChannelNo).toNat]? = some ⟨0x00012345#32, 0x00001234#32, 0x11#32, 0x777#32⟩ := by
  decide

/-- The clause about a channel that does not exist, at its smallest number. -/
theorem witness_SetCompletes_illegal : busy.status = 0x0#4 ∧ busy.nosc ≤ (2#8 : ChannelNo).toNat := by decide

/-- The corner clauses of SET: equal, 1023 above, 1024 below, 1 below. -/
theorem witness_SetCompletes_corners :
    (0 ≤ (sub32 0x3FF#32 0#32).toInt ∧ (sub32 0x3FF#32 0#32).toInt < 1024) ∧
    (-1024 ≤ (sub32 0#32 0x400#32).toInt ∧ (sub32 0#32 0x400#32).toInt < 0) ∧
    (-1024 ≤ (sub32 0#32 1#32).toInt ∧ (sub32 0#32 1#32).toInt < 0) ∧
    (0xFFFFFFFF#32 : Word).getLsbD 31 = true := by decide

theorem witness_SetFrequencySnaps :
    busy.status = 0x0#4 ∧ busy.channels[(1#8 : ChannelNo).toNat]? = some Channel.zero := by decide

/-- A first sample that does not raise, for the last clause of SetFrequencySnaps. -/
theorem witness_SetFrequencySnaps_sample :
    sampleStep 0 0x40#32 0x4000#32 ⟨0#32, 0#32, 0#10, [(0, 9#32)]⟩ =
      .ok ⟨0x40#32, 0x4000#32, 1#10, [(0, 9#32)]⟩ := by rfl

theorem witness_IterCompletes :
    busy.status = 0x0#4 ∧
    busy.channels[(0#8 : ChannelNo).toNat]? = some ⟨0x00012345#32, 0x00001234#32, 0x11#32, 0x777#32⟩ := by
  decide

theorem witness_IterSizeMismatch :
    busy.status = 0x0#4 ∧ (1#8 : ChannelNo).toNat < busy.nosc ∧ (1023#32 : Word).toNat ≠ 1024 ∧
    (1025#32 : Word).toNat ≠ 1024 := by decide

theorem witness_IterCannotFault : 4095 < 4096 ∧ romWord 3072 = 0xFFFF0000#32 := by decide +kernel

/-- A downward ramp with a gap (program P5): the difference is `-13107`, the gap 205. -/
theorem witness_RampLaw :
    let s := block ⟨0x00008000#32, 0x000A3400#32, 0x20#32, 0x28D#32⟩
    s.status = 0x0#4 ∧
    s.channels[(0#8 : ChannelNo).toNat]? = some ⟨0x00008000#32, 0x000A3400#32, 0x20#32, 0x28D#32⟩ ∧
    205 = (sub32 0x00004CCD#32 0x00008000#32).toNat % 1024 := by decide

/-- The clause without a gap, at its smallest step (spec/95_test_vectors.md section 4.1, the fifth row). -/
theorem witness_RampLaw_no_gap :
    busy.status = 0x0#4 ∧ busy.channels[(1#8 : ChannelNo).toNat]? = some Channel.zero ∧
    0 = (sub32 0x400#32 Channel.zero.amp).toNat % 1024 := by decide

theorem witness_ConstantOutput :
    let s := block ⟨0x00010000#32, 0x00004000#32, 0#32, 0#32⟩
    s.status = 0x0#4 ∧
    s.channels[(0#8 : ChannelNo).toNat]? = some ⟨0x00010000#32, 0x00004000#32, 0#32, 0#32⟩ := by decide

/-- `n` zero words from index `lo` on. -/
def zerosFrom (lo : Nat) : Nat → Memory
  | 0 => []
  | n + 1 => (lo, 0#32) :: zerosFrom (lo + 1) n

/-- An all-zero buffer. -/
def zeros : Memory := zerosFrom 0 1024

theorem witness_AdditiveMixing :
    busy.status = 0x0#4 ∧ (0#8 : ChannelNo) ≠ 1#8 ∧ (0#8 : ChannelNo).toNat < busy.nosc ∧
    (1#8 : ChannelNo).toNat < busy.nosc := by decide

theorem zerosFrom_read? (n lo k : Nat) (hlo : lo ≤ k) (hk : k < lo + n) :
    (zerosFrom lo n).read? k = some 0#32 := by
  induction n generalizing lo with
  | zero => omega
  | succ n ih =>
    simp only [zerosFrom, Memory.read?]
    split
    · rfl
    · exact ih (lo + 1) (by omega) (by omega)

theorem witness_AdditiveMixing_zeros (k : BufIndex) : bufRead busy.bufGen zeros k = 0#32 := by
  have hk : k.toNat < 1024 := k.isLt
  simp [bufRead, zeros, zerosFrom_read? 1024 0 k.toNat (Nat.zero_le _) (by omega)]

/-- Frequency words that differ outside bits 25:10 only. -/
theorem witness_FrequencyBitsThatMatter :
    busy.status = 0x0#4 ∧ (0#8 : ChannelNo).toNat < busy.nosc ∧
    (0x000A377F#32 : Word).extractLsb' 10 16 = (0xFC0A3400#32 : Word).extractLsb' 10 16 := by decide

theorem witness_BufferNeverFeedsBack :
    after (exec (.set 0#8 1#32 2#32) busy) ≠ none := by decide

/-- Both clauses: `ch = NOSC` is illegal, `ch = NOSC - 1` is not. -/
theorem witness_IllegalExactly :
    busy.status = 0x0#4 ∧ specIllegal busy.nosc 0x00000208#32 ∧ ¬ specIllegal busy.nosc 0x00000108#32 := by
  refine ⟨by decide, ?_, ?_⟩ <;> unfold specIllegal <;> decide

theorem witness_FaultEntryIsPrecise :
    busy.status = 0x0#4 ∧ after (issue ⟨0x00000004#32, 0x01000000#32, 0x01000000#32⟩ busy) = some dead ∧
    dead.status ≠ 0x0#4 := by decide

theorem witness_FaultedBlockOnlyAnswers : dead.faulted = true := by decide

theorem witness_OnlyResetClearsFault :
    (dead.present .attach).faulted = true ∧ after (step (dead.present .attach)) ≠ none ∧
    (dead.present .reset).faulted = true ∧ after (step (dead.present .reset)) ≠ none := by decide

theorem witness_FaultLastsUntilReset :
    (dead.present .attach).faulted = true ∧ ∀ x ∈ (dead.present .attach).inputs.take 2, ¬ x.resets := by
  refine ⟨by decide, ?_⟩
  intro x hx
  simp [dead, busy, block, State.reset, State.resetWith, State.present, State.setInputs] at hx
  subst hx
  exact id

theorem witness_FaultPriority :
    dead.faulted = true ∧ busy.status = 0x0#4 ∧ busy.nosc ≤ (2#8 : ChannelNo).toNat ∧
    (1#8 : ChannelNo).toNat < busy.nosc ∧ (7#32 : Word).toNat ≠ 1024 := by decide

/-- SET of channel 0 changes channel 0. -/
theorem witness_ChannelWriters :
    (after (step (busy.present (.command ⟨0x00000008#32, 0#32, 0#32⟩)))).map (·.channels[0]?) ≠
      some (busy.present (.command ⟨0x00000008#32, 0#32, 0#32⟩)).channels[0]? ∧
    after (step (busy.present (.command ⟨0x00000008#32, 0#32, 0#32⟩))) ≠ none := by decide

theorem witness_ChannelsAreIsolated :
    addressed (.set 0#8 1#32 2#32) ≠ some 1 ∧ after (exec (.set 0#8 1#32 2#32) busy) ≠ none := by decide

/-- The host's write of word 1 changes what it reads as. -/
theorem witness_BufferWriters :
    (after (step (busy.present (.fill 1#10 9#32)))).map (·.bufWord 1#10) = some 9#32 ∧
    (busy.present (.fill 1#10 9#32)).bufWord 1#10 = 6#32 := by decide

theorem witness_HostBufferActions :
    (busy.present (.fill 1023#10 9#32)).inputs = .fill 1023#10 9#32 :: [] ∧
    (busy.present .attach).inputs = .attach :: [] := by decide

theorem witness_ResetValues : (1#8 : ChannelNo).toNat < 2 ∧ State.reset.nosc = 2 := by decide
theorem witness_ResetInput : (dead.present .reset).inputs = .reset :: [] := by decide
theorem witness_ResetDuringCommand :
    (busy.present (.resetDuring ⟨0x00000009#32, 0x400#32, 0#32⟩)).inputs =
      .resetDuring ⟨0x00000009#32, 0x400#32, 0#32⟩ :: [] := by decide

theorem witness_StepRunsDecoded :
    (busy.present (.command ⟨0x00000009#32, 0x400#32, 0#32⟩)).inputs =
      .command ⟨0x00000009#32, 0x400#32, 0#32⟩ :: [] ∧
    decode ⟨0x00000009#32, 0x400#32, 0#32⟩ = .ok (.iter 0#8 0x400#32 0#32) ∧
    decodeTableWord 96 0x0000040000000009 = some (.iter 0#8 0x400#32 0#32) := by decide

/-- A legal running state and a legal faulted state. -/
theorem busy_legal : busy.Legal := ⟨by decide, by decide, by decide, by decide, by decide⟩
theorem dead_legal : dead.Legal := ⟨by decide, by decide, by decide, by decide, by decide⟩

theorem witness_EveryCommandIsAnswered :
    legalStatus (busy.present (.command ⟨1#32, 2#32, 3#32⟩)).status = true ∧
    (busy.present (.command ⟨1#32, 2#32, 3#32⟩)).inputs = .command ⟨1#32, 2#32, 3#32⟩ :: [] := by decide

/-- The clause without a result: a legal faulted state. -/
theorem witness_EveryCommandIsAnswered_faulted :
    legalStatus (dead.present (.command ⟨1#32, 2#32, 3#32⟩)).status = true ∧
    (dead.present (.command ⟨1#32, 2#32, 3#32⟩)).inputs = .command ⟨1#32, 2#32, 3#32⟩ :: [] ∧
    answer (step (dead.present (.command ⟨1#32, 2#32, 3#32⟩))) = some ⟨0xC#4, none⟩ := by
  decide

theorem witness_StepKeepsLegal :
    (busy.present (.fill 5#10 9#32)).Legal ∧ after (step (busy.present (.fill 5#10 9#32))) ≠ none :=
  ⟨⟨by decide, by decide, by decide, by decide, by decide⟩, by decide⟩

theorem witness_ResetIsLegal : (1 : Nat) ≤ 256 ∧ (256 : Nat) ≤ 256 := by decide

end Sys2Proof.Tests
end

/-! ## ITER never raises inside its loop (R105) -/

namespace Sys2Proof.Machine

/-- The 12 bits drawn from a phase word stay inside the ROM (R103, R105). -/
theorem romIndex_lt (p : Word) : romIndex p < Config.tableSize := by
  have hmask : (p &&& 0xFFFF#32).toNat ≤ 65535 := by
    rw [BitVec.toNat_and]
    exact Nat.and_le_right
  simp only [romIndex, BitVec.toNat_ushiftRight, Nat.shiftRight_eq_div_pow, Config.indexShift,
    Config.tableSize]
  omega

/-- Every entry of the quarter table is at most 1.0 (R56). -/
theorem quarterRows_le : ∀ row ∈ quarterRows, ∀ q ∈ row, q ≤ 65536 := by
  decide

theorem quarter_le (j : Nat) : quarter j ≤ 65536 := by
  unfold quarter
  rcases lt_or_ge (j / 16) quarterRows.length with hrow | hrow
  · rw [List.getD_eq_getElem _ _ hrow]
    rcases lt_or_ge (j % 16) quarterRows[j / 16].length with hcol | hcol
    · rw [List.getD_eq_getElem _ _ hcol]
      exact quarterRows_le _ (List.getElem_mem hrow) _ (List.getElem_mem hcol)
    · rw [List.getD_eq_default _ _ hcol]
      omega
  · rw [List.getD_eq_default _ _ hrow]
    simp

/-- A word spelled by an integer of magnitude at most 1.0 has that magnitude. -/
theorem magnitude_word_le {n : Int} (h : n.natAbs ≤ 65536) : magnitude (word n) ≤ 65536 := by
  rw [magnitude_eq, word, BitVec.toInt_ofInt, Int.bmod_eq_of_le] <;> omega

/-- A sine word is at most 1.0 in magnitude (R55). -/
theorem magnitude_romWord_le (i : Nat) : magnitude (romWord i) ≤ 65536 := by
  have hq := quarter_le (quarterIndex i)
  unfold romWord
  simp only
  split
  · exact magnitude_word_le (by omega)
  · have hwrap : word (2 ^ 32 - quarter (quarterIndex i)) = word (-quarter (quarterIndex i)) := by
      apply BitVec.eq_of_toNat_eq
      simp only [word, BitVec.toNat_ofInt]
      omega
    rw [hwrap]
    exact magnitude_word_le (by omega)

theorem magnitude_le (a : Word) : magnitude a ≤ 2 ^ 31 := by
  have := BitVec.le_toInt a
  have := BitVec.toInt_lt (x := a)
  rw [magnitude_eq]
  omega

/-- The multiply of a sample fits in 32 bits, since its magnitude product is at most `2^47` (R105). -/
theorem mul32_romWord_ok (a : Word) (i : Nat) : ∃ smp, mul32 a (romWord i) = some smp := by
  have hprod : magnitude a * magnitude (romWord i) ≤ 2 ^ 31 * 65536 :=
    Nat.mul_le_mul (magnitude_le a) (magnitude_romWord_le i)
  have hfits : rescaledProduct a (romWord i) < 2 ^ 32 := by
    simp only [rescaledProduct, Config.fracBits]
    omega
  exact ⟨_, mul32_eq_some hfits⟩

theorem sampleStep_never_raises (gen : Nat) (da dp : Word) (w : IterWork) :
    ∃ w', sampleStep gen da dp w = .ok w' := by
  obtain ⟨smp, hmul⟩ := mul32_romWord_ok w.a (romIndex w.p)
  exact ⟨_, sampleStep_ok (romIndex_lt w.p) hmul⟩

theorem samples_never_raise (gen : Nat) (da dp : Word) (n : Nat) (w : IterWork) :
    ∃ w', samples gen da dp n w = .ok w' := by
  induction n generalizing w with
  | zero => exact ⟨w, samples_zero gen da dp w⟩
  | succ n ih =>
    obtain ⟨w1, hfirst⟩ := sampleStep_never_raises gen da dp w
    obtain ⟨w', hrest⟩ := ih w1
    exact ⟨w', by simp only [samples, hfirst, hrest]⟩

/-- The loop of ITER ends without a raise, from any registers and any buffer (R105). -/
theorem iterBlock_never_raises (gen : Nat) (c : Channel) (m : Memory) :
    ∃ w, iterBlock gen c m = .ok w :=
  samples_never_raise gen c.astep c.pstep Config.blockLen ⟨c.amp, c.phase, 0#10, m⟩

/-- The loop of ITER keeps the canonical form of the buffer. -/
theorem iterBlock_wf {gen : Nat} {c : Channel} {m : Memory} {w : IterWork}
    (h : iterBlock gen c m = .ok w) (hm : m.wf = true) : w.buf.wf = true :=
  samples_wf Config.blockLen h hm

end Sys2Proof.Machine

/-! ## The number of channels under each operation (R5, R136) -/

namespace Sys2Proof.Machine.State

@[simp] theorem setInputs_nosc (s : State) (v : List Input) : (s.setInputs v).nosc = s.nosc := rfl
@[simp] theorem setBuf_nosc (s : State) (v : Memory) : (s.setBuf v).nosc = s.nosc := rfl
@[simp] theorem setChannel_nosc (s : State) (ch : ChannelNo) (c : Channel) :
    (s.setChannel ch c).nosc = s.nosc := by
  simp [nosc]
@[simp] theorem respond_nosc (s : State) (r : Word) : (s.respond r).nosc = s.nosc := rfl
@[simp] theorem raise_nosc (s : State) (c : FaultCause) : (s.raise c).nosc = s.nosc := rfl
@[simp] theorem answerFaulted_nosc (s : State) : s.answerFaulted.nosc = s.nosc := rfl
@[simp] theorem applyReset_nosc (s : State) : s.applyReset.nosc = s.nosc := by
  simp [nosc]
@[simp] theorem applyResetDuring_nosc (s done : State) : (s.applyResetDuring done).nosc = s.nosc := by
  simp [nosc]
@[simp] theorem attachBuffer_nosc (s : State) : s.attachBuffer.nosc = s.nosc := rfl
@[simp] theorem fillWord_nosc (s : State) (i : BufIndex) (v : Word) :
    (s.fillWord i v).nosc = s.nosc := rfl
@[simp] theorem resetWith_nosc (n : Nat) : (resetWith n).nosc = n := by
  simp [nosc]

end Sys2Proof.Machine.State

/-! ## The invariant under each operation -/

namespace Sys2Proof.Machine

/-- The one legal value of `STATUS` without `FAULTED` (R18). -/
theorem legalStatus_running {st : BitVec 4} (h : legalStatus st = true)
    (hf : st.getLsbD 3 = false) : st = 0x0#4 := by
  revert st
  decide

theorem legalStatus_faulted {st : BitVec 4} (hf : st.getLsbD 3 = true) : (st == 0x0#4) = false := by
  revert st
  decide

namespace State.Legal

variable {s : State}

/-- A running legal block has `STATUS = 0x0`. -/
theorem status_zero (hs : s.Legal) (hf : s.faulted = false) : s.status = 0x0#4 :=
  legalStatus_running hs.status hf

theorem setInputs (hs : s.Legal) (v : List Input) : (s.setInputs v).Legal :=
  ⟨hs.noscPos, hs.noscMax, hs.status, hs.buf, hs.response⟩

theorem setChannel (hs : s.Legal) (ch : ChannelNo) (c : Channel) : (s.setChannel ch c).Legal :=
  ⟨by simpa using hs.noscPos, by simpa using hs.noscMax, hs.status, hs.buf, hs.response⟩

theorem setBuf (hs : s.Legal) {m : Memory} (hm : m.wf = true) : (s.setBuf m).Legal :=
  ⟨hs.noscPos, hs.noscMax, hs.status, hm, hs.response⟩

/-- A command that completes on a running block answers `STATUS = 0x0` with a result (R61). -/
theorem respond (hs : s.Legal) (hf : s.faulted = false) (r : Word) : (s.respond r).Legal :=
  ⟨hs.noscPos, hs.noscMax, hs.status, hs.buf, by simp [responseAgrees, hs.status_zero hf]⟩

/-- Fault entry with one of the causes the block produces (R18, R124). -/
theorem raise (hs : s.Legal) {c : FaultCause} (hc : legalStatus c.status = true) : (s.raise c).Legal :=
  ⟨hs.noscPos, hs.noscMax, hc, hs.buf,
    by simp [responseAgrees, legalStatus_faulted (State.faultStatus_faulted c)]⟩

/-- The answer of a faulted block carries its `STATUS` and no result (R125). -/
theorem answerFaulted (hs : s.Legal) (hf : s.faulted = true) : s.answerFaulted.Legal :=
  ⟨hs.noscPos, hs.noscMax, hs.status, hs.buf, by simp [responseAgrees, legalStatus_faulted hf]⟩

theorem applyReset (hs : s.Legal) : s.applyReset.Legal :=
  ⟨by simpa using hs.noscPos, by simpa using hs.noscMax, rfl, hs.buf, rfl⟩

/-- Whatever the cut-off command would have done, the reset leaves a legal state (R151). -/
theorem applyResetDuring (hs : s.Legal) (done : State) : (s.applyResetDuring done).Legal :=
  ⟨by simpa using hs.noscPos, by simpa using hs.noscMax, rfl,
    cutOffBuffer_wf _ _ _ _ le_rfl hs.buf, rfl⟩

theorem attachBuffer (hs : s.Legal) : s.attachBuffer.Legal :=
  ⟨hs.noscPos, hs.noscMax, hs.status, rfl, hs.response⟩

theorem fillWord (hs : s.Legal) (i : BufIndex) (v : Word) : (s.fillWord i v).Legal :=
  ⟨hs.noscPos, hs.noscMax, hs.status, bufWrite_wf _ _ _ hs.buf, hs.response⟩

end State.Legal

/-- The reset state of every legal number of channels is legal (R22, R23). -/
theorem resetWith_legal {n : Nat} (hpos : 1 ≤ n) (hmax : n ≤ 256) : (State.resetWith n).Legal :=
  ⟨by simpa using hpos, by simpa using hmax, rfl, resetWith_buf_wf n, rfl⟩

/-! ## The invariant under a command and under a step -/

/-- A command word that spells no command keeps the invariant and the number of channels. -/
theorem illegalCommand_keeps_legal {s t : State} (hs : s.Legal) (h : illegalCommand s = .next t) :
    t.Legal ∧ t.nosc = s.nosc := by
  obtain ⟨hf, rfl⟩ | ⟨-, rfl⟩ := illegalCommand_cases h
  · exact ⟨hs.answerFaulted hf, by simp⟩
  · exact ⟨hs.raise (by decide), by simp⟩

theorem execMul_keeps_legal {a b : Word} {s t : State} (hs : s.Legal) (h : execMul a b s = .next t) :
    t.Legal ∧ t.nosc = s.nosc := by
  obtain ⟨hf, rfl⟩ | ⟨-, -, rfl⟩ | ⟨hf, r, -, rfl⟩ := execMul_cases h
  · exact ⟨hs.answerFaulted hf, by simp⟩
  · exact ⟨hs.raise (by decide), by simp⟩
  · exact ⟨hs.respond hf r, by simp⟩

theorem execSet_keeps_legal {ch : ChannelNo} {a b : Word} {s t : State} (hs : s.Legal)
    (h : execSet ch a b s = .next t) : t.Legal ∧ t.nosc = s.nosc := by
  obtain ⟨hf, rfl⟩ | ⟨-, -, rfl⟩ | ⟨hf, c, -, rfl⟩ := execSet_cases h
  · exact ⟨hs.answerFaulted hf, by simp⟩
  · exact ⟨hs.raise (by decide), by simp⟩
  · exact ⟨(hs.setChannel ch _).respond hf _, by simp⟩

theorem execIter_keeps_legal {ch : ChannelNo} {len b : Word} {s t : State} (hs : s.Legal)
    (h : execIter ch len b s = .next t) : t.Legal ∧ t.nosc = s.nosc := by
  obtain ⟨hf, rfl⟩ | ⟨-, -, rfl⟩ | ⟨hf, c, -, ⟨-, rfl⟩ | ⟨-, e, he, -⟩ | ⟨-, w, hw, rfl⟩⟩ :=
    execIter_cases h
  · exact ⟨hs.answerFaulted hf, by simp⟩
  · exact ⟨hs.raise (by decide), by simp⟩
  · exact ⟨hs.raise (by decide), by simp⟩
  · obtain ⟨w, hw⟩ := iterBlock_never_raises s.bufGen c s.buf
    simp [hw] at he
  · exact ⟨((hs.setBuf (iterBlock_wf hw hs.buf)).setChannel ch _).respond hf _, by simp⟩

/-- A command whose only outcomes are the faulted answer and a result, as ADD, SUB and NEG. -/
theorem answered_or_responded_legal {s t : State} {r : Word} (hs : s.Legal)
    (h : (s.faulted = true ∧ t = s.answerFaulted) ∨ (s.faulted = false ∧ t = s.respond r)) :
    t.Legal ∧ t.nosc = s.nosc := by
  obtain ⟨hf, rfl⟩ | ⟨hf, rfl⟩ := h
  · exact ⟨hs.answerFaulted hf, by simp⟩
  · exact ⟨hs.respond hf r, by simp⟩

/-- Every instruction keeps the invariant and the number of channels. -/
theorem exec_keeps_legal {i : Instr} {s t : State} (hs : s.Legal) (h : exec i s = .next t) :
    t.Legal ∧ t.nosc = s.nosc := by
  cases i with
  | add a b => exact answered_or_responded_legal hs (execAdd_cases h)
  | sub a b => exact answered_or_responded_legal hs (execSub_cases h)
  | neg a b => exact answered_or_responded_legal hs (execNeg_cases (b := b) h)
  | mul a b => exact execMul_keeps_legal hs h
  | set ch a b => exact execSet_keeps_legal hs h
  | iter ch len b => exact execIter_keeps_legal (b := b) hs h

/-- Settles O46, by the host action the step takes. -/
theorem stepKeepsLegal : Obligations.StepKeepsLegal := by
  intro s t hs h
  obtain ⟨-, rfl⟩ | ⟨x, rest, -, hx⟩ := step_cases h
  · exact ⟨hs, rfl⟩
  · have hs' : (s.setInputs rest).Legal := hs.setInputs rest
    rw [← State.setInputs_nosc s rest]
    obtain ⟨c, i, -, -, hi⟩ | ⟨c, e, -, -, he⟩ | ⟨-, rfl⟩ | ⟨c, done, -, -, rfl⟩ | ⟨-, rfl⟩ |
      ⟨i, v, -, rfl⟩ := hx
    · exact exec_keeps_legal hs' hi
    · exact illegalCommand_keeps_legal hs' he
    · exact ⟨hs'.applyReset, by simp⟩
    · exact ⟨hs'.applyResetDuring done, by simp⟩
    · exact ⟨hs'.attachBuffer, by simp⟩
    · exact ⟨hs'.fillWord i v, by simp⟩

/-- Settles O47: `State.reset` is the reset state of two channels. -/
theorem resetIsLegal : Obligations.ResetIsLegal :=
  ⟨resetWith_legal (by decide) (by decide), fun _ hpos hmax => resetWith_legal hpos hmax⟩

end Sys2Proof.Machine

/-! ## The registers after reset (R22, R23) -/

namespace Sys2Proof.Machine

/-- Every channel there is reads as four zero words after reset (R15, R22). -/
theorem resetWith_observe {n : Nat} {ch : ChannelNo} (h : ch.toNat < n) :
    (State.resetWith n).observe ch = some Channel.zero := by
  simp [State.observe, State.channel?, h]

/-- Settles O38. -/
theorem resetValues : Obligations.ResetValues := by
  refine ⟨fun n => ⟨State.resetWith_nosc n, fun ch hch => resetWith_observe hch, rfl,
    faulted_of_status_zero rfl, ?_⟩, ?_⟩
  · simp [State.cause]
  · have hn : State.reset.nosc = Config.nosc := State.resetWith_nosc Config.nosc
    rw [hn, State.reset]

end Sys2Proof.Machine

/-! ## The writers of a channel register (R14) -/

namespace Sys2Proof.Machine

theorem illegalCommand_channels {s t : State} (h : illegalCommand s = .next t) :
    t.channels = s.channels := by
  obtain ⟨-, rfl⟩ | ⟨-, rfl⟩ := illegalCommand_cases h <;> rfl

/-- A command whose only outcomes are the faulted answer and a result writes no register. -/
theorem answered_or_responded_channels {s t : State} {r : Word}
    (h : (s.faulted = true ∧ t = s.answerFaulted) ∨ (s.faulted = false ∧ t = s.respond r)) :
    t.channels = s.channels := by
  obtain ⟨-, rfl⟩ | ⟨-, rfl⟩ := h <;> rfl

theorem execMul_channels {a b : Word} {s t : State} (h : execMul a b s = .next t) :
    t.channels = s.channels := by
  obtain ⟨-, rfl⟩ | ⟨-, -, rfl⟩ | ⟨-, r, -, rfl⟩ := execMul_cases h <;> rfl

/-- A SET that writes registers has found its channel, and keeps `AMP` and `PHASE` of it (R100). -/
theorem execSet_channels {ch : ChannelNo} {a b : Word} {s t : State}
    (h : execSet ch a b s = .next t) :
    t.channels = s.channels ∨
    ∃ r r', s.channel? ch = some r ∧ t.channels = (s.setChannel ch r').channels ∧
      r'.amp = r.amp ∧ r'.phase = r.phase := by
  obtain ⟨-, rfl⟩ | ⟨-, -, rfl⟩ | ⟨-, r, hr, rfl⟩ := execSet_cases h
  · exact .inl rfl
  · exact .inl rfl
  · exact .inr ⟨r, _, hr, rfl, rfl, rfl⟩

/-- An ITER that writes registers has found its channel, and keeps both steps of it (R102). -/
theorem execIter_channels {ch : ChannelNo} {len b : Word} {s t : State}
    (h : execIter ch len b s = .next t) :
    t.channels = s.channels ∨
    ∃ r r', s.channel? ch = some r ∧ t.channels = (s.setChannel ch r').channels ∧
      r'.astep = r.astep ∧ r'.pstep = r.pstep := by
  obtain ⟨-, rfl⟩ | ⟨-, -, rfl⟩ | ⟨-, r, hr, ⟨-, rfl⟩ | ⟨-, e, -, rfl⟩ | ⟨-, w, -, rfl⟩⟩ :=
    execIter_cases h
  · exact .inl rfl
  · exact .inl rfl
  · exact .inl rfl
  · exact .inl rfl
  · exact .inr ⟨r, _, hr, rfl, rfl, rfl⟩

/-- The registers a channel keeps under the instruction that writes it: SET keeps `AMP` and `PHASE`, ITER
keeps `ASTEP` and `PSTEP` (R14). No other instruction writes one. -/
def ChannelKept (i : Instr) (r r' : Channel) : Prop :=
  ((∃ ch a b, i = .set ch a b) ∧ r'.amp = r.amp ∧ r'.phase = r.phase) ∨
  ((∃ ch a b, i = .iter ch a b) ∧ r'.astep = r.astep ∧ r'.pstep = r.pstep)

/-- All an instruction can do to the registers: nothing, or a write of the channel it is addressed to. -/
theorem exec_channels {i : Instr} {s t : State} (h : exec i s = .next t) :
    t.channels = s.channels ∨
    ∃ ch r r', addressed i = some ch.toNat ∧ s.channel? ch = some r ∧
      t.channels = (s.setChannel ch r').channels ∧ ChannelKept i r r' := by
  cases i with
  | add a b => exact .inl (answered_or_responded_channels (execAdd_cases h))
  | sub a b => exact .inl (answered_or_responded_channels (execSub_cases h))
  | neg a b => exact .inl (answered_or_responded_channels (execNeg_cases (b := b) h))
  | mul a b => exact .inl (execMul_channels h)
  | set ch a b =>
    refine (execSet_channels h).imp id fun ⟨r, r', hr, ht, hkept⟩ => ?_
    exact ⟨ch, r, r', rfl, hr, ht, .inl ⟨⟨ch, a, b, rfl⟩, hkept⟩⟩
  | iter ch len b =>
    refine (execIter_channels (b := b) h).imp id fun ⟨r, r', hr, ht, hkept⟩ => ?_
    exact ⟨ch, r, r', rfl, hr, ht, .inr ⟨⟨ch, len, b, rfl⟩, hkept⟩⟩

/-- An existing channel reads back the registers written to it. -/
theorem setChannel_getElem?_self {s : State} {ch : ChannelNo} {r : Channel}
    (h : s.channel? ch = some r) (r' : Channel) :
    (s.setChannel ch r').channels[ch.toNat]? = some r' := by
  obtain ⟨hlt, -⟩ := List.getElem?_eq_some_iff.mp h
  simp [hlt]

theorem setChannel_getElem?_ne (s : State) {ch : ChannelNo} {k : Nat} (h : ch.toNat ≠ k)
    (r' : Channel) : (s.setChannel ch r').channels[k]? = s.channels[k]? :=
  List.getElem?_set_ne h

/-- An instruction that changes channel `k` is a SET or an ITER addressed to it. -/
theorem exec_changes_channel {i : Instr} {s t : State} {k : Nat} (h : exec i s = .next t)
    (hne : t.channels[k]? ≠ s.channels[k]?) :
    ∃ r r', addressed i = some k ∧ s.channels[k]? = some r ∧ t.channels[k]? = some r' ∧
      ChannelKept i r r' := by
  obtain heq | ⟨ch, r, r', haddr, hr, ht, hkept⟩ := exec_channels h
  · exact absurd (by rw [heq]) hne
  · rw [ht] at hne ⊢
    have hk : ch.toNat = k := by
      by_contra hk
      exact hne (setChannel_getElem?_ne s hk r')
    subst hk
    exact ⟨r, r', haddr, hr, setChannel_getElem?_self hr r', hkept⟩

/-- Settles O34, by the host action the step takes: only a reset and a command write channels. -/
theorem channelWriters : Obligations.ChannelWriters := by
  intro s t k h hne
  obtain ⟨-, rfl⟩ | ⟨x, rest, hin, hx⟩ := step_cases h
  · exact absurd rfl hne
  · refine ⟨x, rest, hin, ?_⟩
    obtain ⟨c, i, rfl, hd, hi⟩ | ⟨c, e, -, -, he⟩ | ⟨rfl, -⟩ | ⟨c, done, rfl, -, -⟩ | ⟨-, rfl⟩ |
      ⟨i, v, -, rfl⟩ := hx
    · obtain ⟨r, r', haddr, hr, hr', hkept⟩ := exec_changes_channel hi hne
      exact .inr ⟨c, i, r, r', rfl, hd, haddr, hr, hr', hkept⟩
    · exact absurd (by rw [illegalCommand_channels he, State.setInputs_channels]) hne
    · exact .inl trivial
    · exact .inl trivial
    · exact absurd rfl hne
    · exact absurd rfl hne

end Sys2Proof.Machine

/-! ## A command and the channels it is not addressed to (R14, R136) -/

namespace Sys2Proof.Machine

/-- The state with other registers in channel `k`, for any number `k`. -/
def State.withChannel (k : Nat) (r : Channel) (s : State) : State :=
  s.setChannels (s.channels.set k r)

/-- The same answer, with other registers in channel `k` of the next state. -/
def answerWithChannel (k : Nat) (r : Channel) : Result → Result
  | .next t => .next (t.withChannel k r)
  | .fault e => .fault e
  | .refused e => .refused e

section

variable {k : Nat} {r : Channel} {s : State}

@[simp] theorem answerWithChannel_next (t : State) :
    answerWithChannel k r (.next t) = .next (t.withChannel k r) := rfl

@[simp] theorem withChannel_faulted : (s.withChannel k r).faulted = s.faulted := rfl
@[simp] theorem withChannel_buf : (s.withChannel k r).buf = s.buf := rfl
@[simp] theorem withChannel_bufGen : (s.withChannel k r).bufGen = s.bufGen := rfl

@[simp] theorem withChannel_respond (v : Word) :
    (s.withChannel k r).respond v = (s.respond v).withChannel k r := rfl
@[simp] theorem withChannel_raise (e : FaultCause) :
    (s.withChannel k r).raise e = (s.raise e).withChannel k r := rfl
@[simp] theorem withChannel_answerFaulted :
    (s.withChannel k r).answerFaulted = s.answerFaulted.withChannel k r := rfl
@[simp] theorem withChannel_setBuf (m : Memory) :
    (s.withChannel k r).setBuf m = (s.setBuf m).withChannel k r := rfl

theorem withChannel_channel? {ch : ChannelNo} (h : ch.toNat ≠ k) :
    (s.withChannel k r).channel? ch = s.channel? ch :=
  List.getElem?_set_ne h.symm

theorem withChannel_setChannel {ch : ChannelNo} (h : ch.toNat ≠ k) (c : Channel) :
    (s.withChannel k r).setChannel ch c = (s.setChannel ch c).withChannel k r :=
  congrArg s.setChannels (List.set_comm r c h.symm)

/-- Whether a block answers or runs does not depend on its channels (R125). -/
theorem whenRunning_withChannel {run run' : Result} (h : run' = answerWithChannel k r run) :
    whenRunning (s.withChannel k r) run' = answerWithChannel k r (whenRunning s run) := by
  cases hf : s.faulted with
  | true => simp [hf]
  | false => simp [hf, h]

theorem execMul_withChannel (a b : Word) :
    execMul a b (s.withChannel k r) = answerWithChannel k r (execMul a b s) := by
  refine whenRunning_withChannel ?_
  cases mul32 a b with
  | none => rfl
  | some v => rfl

/-- SET reads and writes its own channel alone (R100). -/
theorem execSet_withChannel {ch : ChannelNo} (h : ch.toNat ≠ k) (a b : Word) :
    execSet ch a b (s.withChannel k r) = answerWithChannel k r (execSet ch a b s) := by
  refine whenRunning_withChannel ?_
  rw [withChannel_channel? h]
  cases s.channel? ch with
  | none => rfl
  | some c => simp [withChannel_setChannel h]

/-- ITER reads and writes its own channel alone, and the buffer (R102). -/
theorem execIter_withChannel {ch : ChannelNo} (h : ch.toNat ≠ k) (len b : Word) :
    execIter ch len b (s.withChannel k r) = answerWithChannel k r (execIter ch len b s) := by
  refine whenRunning_withChannel ?_
  rw [withChannel_channel? h, withChannel_bufGen, withChannel_buf]
  cases s.channel? ch with
  | none => rfl
  | some c =>
    cases lenMatches len with
    | false => rfl
    | true =>
      cases hw : iterBlock s.bufGen c s.buf with
      | error e => simp [hw]
      | ok w => simp [hw, withChannel_setChannel h]

/-- Other registers in a channel an instruction is not addressed to stay there and change nothing else. -/
theorem exec_withChannel {i : Instr} (h : addressed i ≠ some k) :
    exec i (s.withChannel k r) = answerWithChannel k r (exec i s) := by
  cases i with
  | add a b => exact whenRunning_withChannel rfl
  | sub a b => exact whenRunning_withChannel rfl
  | neg a b => exact whenRunning_withChannel rfl
  | mul a b => exact execMul_withChannel a b
  | set ch a b => exact execSet_withChannel (fun hk => h (congrArg some hk)) a b
  | iter ch len b => exact execIter_withChannel (fun hk => h (congrArg some hk)) len b

end

/-- Settles O35: the instruction commutes with the replacement of the registers. -/
theorem channelsAreIsolated : Obligations.ChannelsAreIsolated := by
  intro i s t k r haddr h
  calc exec i (s.withChannel k r)
      = answerWithChannel k r (exec i s) := exec_withChannel haddr
    _ = .next (t.withChannel k r) := by rw [h, answerWithChannel_next]

end Sys2Proof.Machine

/-! ## The writers of a buffer word (R26, R34, R38) -/

namespace Sys2Proof.Machine

/-- The same buffer is attached, and its written words are the same. -/
def State.SameBuffer (s t : State) : Prop := t.buf = s.buf ∧ t.bufGen = s.bufGen

/-- Equal buffers read alike at every index (R33). -/
theorem State.SameBuffer.bufWord_eq {s t : State} (h : s.SameBuffer t) (k : BufIndex) :
    t.bufWord k = s.bufWord k := by
  obtain ⟨hbuf, hgen⟩ := h
  rw [State.bufWord, State.bufWord, hbuf, hgen]

/-- An ITER that passes its checks: the block runs, the channel exists, the length is 1024 (R121, R128). -/
def PassingIter (i : Instr) (s : State) : Prop :=
  ∃ ch len b, i = .iter ch len b ∧ s.faulted = false ∧ ch.toNat < s.nosc ∧ len.toNat = 1024

theorem lt_nosc_of_channel? {s : State} {ch : ChannelNo} {c : Channel} (h : s.channel? ch = some c) :
    ch.toNat < s.nosc := by
  obtain ⟨hlt, -⟩ := List.getElem?_eq_some_iff.mp h
  exact hlt

/-- The length check passes at 1024 alone (R121). -/
theorem lenMatches_iff {len : Word} : lenMatches len = true ↔ len.toNat = 1024 := beq_iff_eq

theorem illegalCommand_sameBuffer {s t : State} (h : illegalCommand s = .next t) : s.SameBuffer t := by
  obtain ⟨-, rfl⟩ | ⟨-, rfl⟩ := illegalCommand_cases h <;> exact ⟨rfl, rfl⟩

/-- A command whose only outcomes are the faulted answer and a result leaves the buffer alone. -/
theorem answered_or_responded_sameBuffer {s t : State} {r : Word}
    (h : (s.faulted = true ∧ t = s.answerFaulted) ∨ (s.faulted = false ∧ t = s.respond r)) :
    s.SameBuffer t := by
  obtain ⟨-, rfl⟩ | ⟨-, rfl⟩ := h <;> exact ⟨rfl, rfl⟩

theorem execMul_sameBuffer {a b : Word} {s t : State} (h : execMul a b s = .next t) :
    s.SameBuffer t := by
  obtain ⟨-, rfl⟩ | ⟨-, -, rfl⟩ | ⟨-, r, -, rfl⟩ := execMul_cases h <;> exact ⟨rfl, rfl⟩

theorem execSet_sameBuffer {ch : ChannelNo} {a b : Word} {s t : State}
    (h : execSet ch a b s = .next t) : s.SameBuffer t := by
  obtain ⟨-, rfl⟩ | ⟨-, -, rfl⟩ | ⟨-, c, -, rfl⟩ := execSet_cases h <;> exact ⟨rfl, rfl⟩

/-- An ITER that does not pass its checks leaves the buffer alone (R121, R124, R125). -/
theorem execIter_sameBuffer_or_passes {ch : ChannelNo} {len b : Word} {s t : State}
    (h : execIter ch len b s = .next t) : s.SameBuffer t ∨ PassingIter (.iter ch len b) s := by
  obtain ⟨-, rfl⟩ | ⟨-, -, rfl⟩ | ⟨hf, c, hc, ⟨-, rfl⟩ | ⟨-, e, -, rfl⟩ | ⟨hlen, w, -, -⟩⟩ :=
    execIter_cases h
  · exact .inl ⟨rfl, rfl⟩
  · exact .inl ⟨rfl, rfl⟩
  · exact .inl ⟨rfl, rfl⟩
  · exact .inl ⟨rfl, rfl⟩
  · exact .inr ⟨ch, len, b, rfl, hf, lt_nosc_of_channel? hc, lenMatches_iff.mp hlen⟩

/-- The only instruction that can touch the buffer is an ITER that passes its checks (R38). -/
theorem exec_sameBuffer_or_passes {i : Instr} {s t : State} (h : exec i s = .next t) :
    s.SameBuffer t ∨ PassingIter i s := by
  cases i with
  | add a b => exact .inl (answered_or_responded_sameBuffer (execAdd_cases h))
  | sub a b => exact .inl (answered_or_responded_sameBuffer (execSub_cases h))
  | neg a b => exact .inl (answered_or_responded_sameBuffer (execNeg_cases (b := b) h))
  | mul a b => exact .inl (execMul_sameBuffer h)
  | set ch a b => exact .inl (execSet_sameBuffer h)
  | iter ch len b => exact execIter_sameBuffer_or_passes h

/-- An issued command is executed when it decodes, and illegal when it does not (R60, R66). -/
theorem issue_cases {c : Command} {s t : State} (h : issue c s = .next t) :
    (∃ i, decode c = .ok i ∧ exec i s = .next t) ∨
    (∃ e, decode c = .error e ∧ illegalCommand s = .next t) := by
  unfold issue at h
  split at h
  · next i hd => exact .inl ⟨i, hd, h⟩
  · next e hd => exact .inr ⟨e, hd, h⟩

theorem issue_sameBuffer_or_passes {c : Command} {s t : State} (h : issue c s = .next t) :
    s.SameBuffer t ∨ ∃ i, decode c = .ok i ∧ PassingIter i s := by
  obtain ⟨i, hd, hi⟩ | ⟨e, -, he⟩ := issue_cases h
  · exact (exec_sameBuffer_or_passes hi).imp id fun hpass => ⟨i, hd, hpass⟩
  · exact .inl (illegalCommand_sameBuffer he)

/-- A cut-off command that would have left the written words alone has left them alone (R151). -/
theorem cutOffBuffer_self_read? (gen : Nat) (m : Memory) (n k : Nat) :
    (cutOffBuffer gen m m n).read? k = m.read? k := by
  obtain hold | ⟨-, v, hnew, hcut⟩ := cutOffBuffer_read? gen m m n k
  · exact hold
  · rw [hcut, hnew]

theorem applyResetDuring_bufWord {s done : State} (h : s.SameBuffer done) (k : BufIndex) :
    (s.applyResetDuring done).bufWord k = s.bufWord k := by
  obtain ⟨hbuf, -⟩ := h
  simp only [State.bufWord, bufRead, State.applyResetDuring_buf, State.applyResetDuring_bufGen, hbuf,
    cutOffBuffer_self_read?]

/-- The host's write of word `i` is what that word then reads as, and no other word changes (R34). -/
theorem fillWord_bufWord (s : State) (i k : BufIndex) (v : Word) :
    (s.fillWord i v).bufWord k = if k = i then v else s.bufWord k :=
  (bufRead_bufWrite s.bufGen s.buf i k v).trans (if_congr eq_comm rfl rfl)

/-- Settles O36, by the host action the step takes. -/
theorem bufferWriters : Obligations.BufferWriters := by
  intro s t k h hne
  obtain ⟨-, rfl⟩ | ⟨x, rest, hin, hx⟩ := step_cases h
  · exact absurd rfl hne
  · refine ⟨x, rest, hin, ?_⟩
    obtain ⟨c, i, rfl, hd, hi⟩ | ⟨c, e, -, -, he⟩ | ⟨-, rfl⟩ | ⟨c, done, rfl, hdone, rfl⟩ |
      ⟨rfl, -⟩ | ⟨i, v, rfl, rfl⟩ := hx
    · obtain hsame | ⟨ch, len, b, rfl, hchecks⟩ := exec_sameBuffer_or_passes hi
      · exact absurd (hsame.bufWord_eq k) hne
      · exact .inr (.inr ⟨c, ch, len, b, .inl rfl, hd, hchecks⟩)
    · exact absurd ((illegalCommand_sameBuffer he).bufWord_eq k) hne
    · exact absurd rfl hne
    · obtain hsame | ⟨i, hd, ch, len, b, rfl, hchecks⟩ := issue_sameBuffer_or_passes hdone
      · exact absurd (applyResetDuring_bufWord hsame k) hne
      · exact .inr (.inr ⟨c, ch, len, b, .inr rfl, hd, hchecks⟩)
    · exact .inl rfl
    · have hki : k = i := by
        by_contra hki
        exact hne ((fillWord_bufWord (s.setInputs rest) i k v).trans (if_neg hki))
      exact .inr (.inl ⟨v, by rw [hki]⟩)

end Sys2Proof.Machine

/-! ## The host's buffer actions (R34, R42, R153) -/

namespace Sys2Proof.Machine

/-- A step with a host action waiting takes it (R16). -/
theorem step_of_inputs_cons {s : State} {x : Input} {rest : List Input} (h : s.inputs = x :: rest) :
    step s = takeInput x (s.setInputs rest) := by
  simp only [step, h]

/-- Settles O37: the next states are those of the host's write and of the attachment. -/
theorem hostBufferActions : Obligations.HostBufferActions := by
  refine ⟨fun s i v rest hin => ?_, fun s rest hin => ?_⟩
  · exact ⟨(s.setInputs rest).fillWord i v, step_of_inputs_cons hin, rfl, fun k =>
      fillWord_bufWord (s.setInputs rest) i k v⟩
  · exact ⟨(s.setInputs rest).attachBuffer, step_of_inputs_cons hin, rfl⟩

end Sys2Proof.Machine

/-! ## The quarter table along a rotation (R53, R56)

The quarter wave is 1024 turns by `pi/2048` from the point 1 of the complex plane. Here the turns are made on
points with integer coordinates, in units of `2^-48` and rounded down, and the table is compared with the
heights they reach. How far these points are from the exact ones is the section on the error below. -/

namespace Sys2Proof.Machine

/-- A point of the plane in units of `2^-48`: a cosine `re` and a sine `im`. -/
abbrev GridPoint := GaussianInt

namespace GridPoint

/-- The point 1, at angle 0. -/
def one : GridPoint := ⟨2 ^ 48, 0⟩

/-- The cosine and sine of `pi/2048`, rounded down to the grid. -/
def unitTurn : GridPoint := ⟨281474645541751, 431777037209⟩

/-- The product with `unitTurn`, rounded down to the grid. -/
def turn (p : GridPoint) : GridPoint := ⟨(p * unitTurn).re / 2 ^ 48, (p * unitTurn).im / 2 ^ 48⟩

/-- The point after `n` turns from 1. -/
def turned : Nat → GridPoint
  | 0 => one
  | n + 1 => (turned n).turn

end GridPoint

open GridPoint

/-- Table entry `j` is closer to the height of `p` than one half, by more than the error of `p`: in grid
units, where a unit of the table is `2^32` and the error `2^-28` is `2^20`. -/
def entryFits (j : Nat) (p : GridPoint) : Bool :=
  decide (((2 ^ 32 * quarter j : Int) - p.im).natAbs + 2 ^ 20 < 2 ^ 31)

/-- Turns `n` times from `p` while the table entries from entry `j` on fit; answers the point reached. -/
def fitAlong : Nat → Nat → GridPoint → Option GridPoint
  | 0, _, p => some p
  | n + 1, j, p => if entryFits j p then fitAlong n (j + 1) p.turn else none

/-- `m` stretches of `len` entries from entry `j` on fit. The cut into stretches keeps the recursion of an
evaluation shallow; each turn is made once. -/
def stretchesFit (len : Nat) : Nat → Nat → GridPoint → Bool
  | 0, _, _ => true
  | m + 1, j, p =>
    match fitAlong len j p with
    | some q => stretchesFit len m (j + len) q
    | none => false

/-- A cut of the quarter wave, as the length and the number of its stretches, along which the whole table
fits by evaluation. -/
def tableCut : { c : Nat × Nat // 1024 < c.1 * c.2 ∧ stretchesFit c.1 c.2 0 (turned 0) = true } :=
  ⟨(25, 41), by decide⟩

/-- A pass that starts at the `j`-th point ends at the `j + n`-th, and every entry on its way fits. -/
theorem fitAlong_eq_some {n j : Nat} {q : GridPoint} (h : fitAlong n j (turned j) = some q) :
    q = turned (j + n) ∧ ∀ k, j ≤ k → k < j + n → entryFits k (turned k) = true := by
  induction n generalizing j with
  | zero => exact ⟨(Option.some.inj h).symm, fun k _ _ => by omega⟩
  | succ n ih =>
    by_cases hfirst : entryFits j (turned j) = true
    · rw [fitAlong, if_pos hfirst] at h
      obtain ⟨hend, hrest⟩ := ih (j := j + 1) h
      refine ⟨by rw [hend, Nat.add_right_comm]; rfl, fun k hjk hk => ?_⟩
      rcases Nat.eq_or_lt_of_le hjk with rfl | hlt
      · exact hfirst
      · exact hrest k hlt (by omega)
    · rw [fitAlong, if_neg hfirst] at h
      cases h

/-- Every entry of a run of fitting stretches fits the point of its own number of turns. -/
theorem entryFits_of_stretchesFit {len m j k : Nat} (h : stretchesFit len m j (turned j) = true)
    (hjk : j ≤ k) (hk : k < j + len * m) : entryFits k (turned k) = true := by
  induction m generalizing j with
  | zero => omega
  | succ m ih =>
    rw [Nat.mul_succ] at hk
    cases hpass : fitAlong len j (turned j) with
    | none => simp [stretchesFit, hpass] at h
    | some q =>
      obtain ⟨rfl, hstretch⟩ := fitAlong_eq_some hpass
      rcases Nat.lt_or_ge k (j + len) with hlt | hge
      · exact hstretch k hjk hlt
      · exact ih (j := j + len) (by simpa [stretchesFit, hpass] using h) hge (by omega)

/-- Every entry of the quarter table fits the grid point of its angle. -/
theorem entryFits_turned {j : Nat} (hj : j ≤ 1024) : entryFits j (turned j) = true := by
  obtain ⟨hlen, hfits⟩ := tableCut.property
  exact entryFits_of_stretchesFit hfits (Nat.zero_le j) (by omega)

end Sys2Proof.Machine

/-! ## The signed readings of the sine ROM (R54, R55) -/

namespace Sys2Proof.Machine

/-- The integer ROM word `i` spells: the folded quarter entry, negated in the second half (R54). -/
def romValue (i : Nat) : Int :=
  if i < 2048 then quarter (quarterIndex i) else -quarter (quarterIndex i)

theorem quarterIndex_le (i : Nat) : quarterIndex i ≤ 1024 := by
  unfold quarterIndex
  grind

theorem quarterIndex_of_le {i : Nat} (h : i ≤ 1024) : quarterIndex i = i := by
  unfold quarterIndex
  grind

/-- The fold mirrors the half wave at its middle (R54). -/
theorem quarterIndex_mirror {i : Nat} (h : i ≤ 2048) : quarterIndex (2048 - i) = quarterIndex i := by
  unfold quarterIndex
  grind

/-- The fold has the period of half a wave (R54). -/
theorem quarterIndex_add_half (i : Nat) : quarterIndex (2048 + i) = quarterIndex i := by
  simp only [quarterIndex, Nat.add_mod_left]

/-- The two spellings `2^32 - q` and `-q` are one word. -/
theorem romWord_eq_word_romValue (i : Nat) : romWord i = word (romValue i) := by
  unfold romWord romValue
  split
  · rfl
  · apply BitVec.eq_of_toNat_eq
    simp only [word, BitVec.toNat_ofInt]
    omega

theorem romValue_natAbs_le (i : Nat) : (romValue i).natAbs ≤ 65536 := by
  have hq := quarter_le (quarterIndex i)
  unfold romValue
  split <;> omega

/-- The signed reading of a ROM word is the integer it spells, which needs only 18 bits (R55). -/
theorem romWord_toInt (i : Nat) : (romWord i).toInt = romValue i := by
  have hv := romValue_natAbs_le i
  rw [romWord_eq_word_romValue, word, BitVec.toInt_ofInt, Int.bmod_eq_of_le] <;> omega

/-- ROM words are equal exactly when the integers they spell are. -/
theorem romWord_eq_word_iff {i : Nat} {n : Int} (hn : n.natAbs ≤ 65536) :
    romWord i = word n ↔ romValue i = n := by
  have hword : (word n).toInt = n := by
    rw [word, BitVec.toInt_ofInt, Int.bmod_eq_of_le] <;> omega
  rw [← BitVec.toInt_inj, romWord_toInt, hword]

/-- The second half of the wave is the first half negated (R54). -/
theorem romValue_add_half {i : Nat} (h : i < 2048) : romValue (2048 + i) = -romValue i := by
  rw [romValue, romValue, if_neg (by omega), if_pos h, quarterIndex_add_half]

/-- The first half of the wave is its own mirror image; at the ends both sides are `0` (R54). -/
theorem romValue_mirror {i : Nat} (h : i ≤ 1024) : romValue (2048 - i) = romValue i := by
  have hfold := quarterIndex_mirror (i := i) (by omega)
  rcases Nat.eq_zero_or_pos i with rfl | hpos
  · decide
  · rw [romValue, romValue, if_pos (by omega), if_pos (by omega), hfold]

/-- The quarter table does not decrease, in 32 stretches of 32 entries (R55). -/
theorem quarter_le_succ_stretch :
    ∀ a < 32, ∀ b < 32, quarter (32 * a + b) ≤ quarter (32 * a + b + 1) := by
  decide

/-- No entry of the quarter table is below the one before it (R55). -/
theorem quarter_le_succ (j : Nat) (hj : j < 1024) : quarter j ≤ quarter (j + 1) := by
  have := quarter_le_succ_stretch (j / 32) (by omega) (j % 32) (by omega)
  rwa [Nat.div_add_mod] at this

theorem quarter_mono {j k : Nat} (hjk : j ≤ k) (hk : k ≤ 1024) : quarter j ≤ quarter k := by
  induction k, hjk using Nat.le_induction with
  | base => exact le_rfl
  | succ k _ ih => exact (ih (by omega)).trans (quarter_le_succ k (by omega))

/-- The quarter table reaches 1.0 at its last three entries, since it does not decrease and is below
1.0 at entry 1021 (R55). -/
theorem quarter_eq_one_iff {j : Nat} (hj : j ≤ 1024) : quarter j = 65536 ↔ 1022 ≤ j := by
  have hbelow : quarter 1021 = 65535 := by decide
  have htop : quarter 1022 = 65536 := by decide
  refine ⟨fun h => ?_, fun h => ?_⟩
  · by_contra hlt
    have := quarter_mono (j := j) (k := 1021) (by omega) (by omega)
    omega
  · exact le_antisymm (quarter_le j) (htop ▸ quarter_mono h hj)

/-- The fold lands on the last three entries from the five indices around a quarter wave. -/
theorem le_quarterIndex_iff (i : Nat) :
    1022 ≤ quarterIndex i ↔ 1022 ≤ i % 2048 ∧ i % 2048 ≤ 1026 := by
  unfold quarterIndex
  grind

/-- The largest value is 1.0, at the five indices around a quarter wave (R55). -/
theorem romValue_eq_one_iff {i : Nat} (hi : i < 4096) :
    romValue i = 65536 ↔ 1022 ≤ i ∧ i ≤ 1026 := by
  have hq := quarter_eq_one_iff (quarterIndex_le i)
  have hfold := le_quarterIndex_iff i
  unfold romValue
  split <;> omega

/-- The smallest value is -1.0, at the five indices around three quarters of a wave (R55). -/
theorem romValue_eq_neg_one_iff {i : Nat} (hi : i < 4096) :
    romValue i = -65536 ↔ 3070 ≤ i ∧ i ≤ 3074 := by
  have hq := quarter_eq_one_iff (quarterIndex_le i)
  have hfold := le_quarterIndex_iff i
  unfold romValue
  split <;> omega

/-- On the first quarter wave the ROM is the quarter table. -/
theorem romValue_of_le {i : Nat} (h : i ≤ 1024) : romValue i = quarter i := by
  rw [romValue, if_pos (by omega), quarterIndex_of_le h]

/-- Settles O15, through the integers that the ROM words spell. -/
theorem romShape : Obligations.RomShape := by
  refine ⟨fun i hi => ?_, fun i hi => ?_, by decide, by decide, by decide, by decide,
    fun _ _ => rfl, fun i hi => ?_, fun i hi => ?_⟩
  · rw [romWord_eq_word_romValue, romWord_eq_word_romValue, romValue_mirror hi]
  · rw [neg32_eq, romWord_eq_word_romValue, romWord_eq_word_romValue, romValue_add_half hi, word, word,
      BitVec.ofInt_neg]
  · have hmin : (0xFFFF0000#32 : Word) = word (-65536) := by decide
    rw [romWord_toInt, hmin, romWord_eq_word_iff (by decide)]
    exact ⟨romValue_natAbs_le i, romValue_eq_one_iff hi, romValue_eq_neg_one_iff hi⟩
  · rw [romWord_toInt, romWord_toInt, romValue_of_le (by omega), romValue_of_le (by omega)]
    exact Int.ofNat_le.mpr (quarter_le_succ i hi)

end Sys2Proof.Machine

/-! ## Rounding to the nearest integer (R95) -/

namespace Sys2Proof.Machine

/-- An integer closer than one half is the one `roundNearest` picks, whatever `ROUND_TIE` is (R95). -/
theorem roundNearest_eq_of_abs_sub_lt {x : ℝ} {n : ℤ} (h : |n - x| < 1 / 2) : roundNearest x = n := by
  obtain ⟨hlo, hhi⟩ := abs_lt.mp h
  unfold roundNearest
  rcases le_or_gt (n : ℝ) x with hle | hgt
  · have hfloor : ⌊x⌋ = n := Int.floor_eq_iff.mpr ⟨hle, by linarith⟩
    simp only [hfloor]
    rw [if_pos (by linarith)]
  · have hfloor : ⌊x⌋ = n - 1 :=
      Int.floor_eq_iff.mpr ⟨by push_cast; linarith, by push_cast; linarith⟩
    simp only [hfloor]
    push_cast
    rw [if_neg (by linarith), if_pos (by linarith)]
    ring

end Sys2Proof.Machine

/-! ## The error of the rotation (R52, R53)

No turn stretches the error it finds, so each turn adds at most `2^-38` to it; after the last one it is
`2^-28`, below half of the room that the half-way points leave. -/

namespace Sys2Proof.Machine

/-- The exact turn by the angle of one ROM step, `pi/2048`. -/
noncomputable def exactTurn : ℂ := Complex.exp (((Real.pi / 2048 : ℝ) : ℂ) * Complex.I)

namespace GridPoint

/-- The point of the complex plane that a grid point stands for. -/
noncomputable def toComplex (p : GridPoint) : ℂ := ⟨p.re / 2 ^ 48, p.im / 2 ^ 48⟩

@[simp] theorem toComplex_re (p : GridPoint) : p.toComplex.re = p.re / 2 ^ 48 := rfl
@[simp] theorem toComplex_im (p : GridPoint) : p.toComplex.im = p.im / 2 ^ 48 := rfl

end GridPoint

open GridPoint

theorem norm_exactTurn : ‖exactTurn‖ = 1 := Complex.norm_exp_ofReal_mul_I _

theorem exactTurn_re : exactTurn.re = Real.cos (Real.pi / 2048) := Complex.exp_ofReal_mul_I_re _

theorem exactTurn_im : exactTurn.im = Real.sin (Real.pi / 2048) := Complex.exp_ofReal_mul_I_im _

/-- After `n` exact turns the height is the sine of `n` ROM steps. -/
theorem exactTurn_pow_im (n : Nat) : (exactTurn ^ n).im = Real.sin (n * (Real.pi / 2048)) := by
  have hpow : exactTurn ^ n = Complex.exp (((n * (Real.pi / 2048) : ℝ) : ℂ) * Complex.I) := by
    rw [exactTurn, ← Complex.exp_nat_mul]
    push_cast
    ring_nf
  rw [hpow, Complex.exp_ofReal_mul_I_im]

/-- The rounded turn does not stretch. -/
theorem norm_unitTurn_le : ‖unitTurn.toComplex‖ ≤ 1 := by
  rw [Complex.norm_def, Real.sqrt_le_one, Complex.normSq_apply]
  norm_num [unitTurn]

/-- `pi/2048` between two decimals. -/
theorem romStep_bounds :
    0.0015339807878856412 ≤ Real.pi / 2048 ∧ Real.pi / 2048 ≤ 0.0015339807878856413 := by
  have := Real.pi_gt_d20
  have := Real.pi_lt_d20
  constructor <;> linarith

theorem abs_unitTurn_re_sub_cos_le : |unitTurn.re / 2 ^ 48 - Real.cos (Real.pi / 2048)| ≤ 1 / 2 ^ 40 := by
  obtain ⟨hlo, hhi⟩ := romStep_bounds
  have hpos : 0 ≤ Real.pi / 2048 := by positivity
  have htaylor := Real.cos_bound (x := Real.pi / 2048) (by rw [abs_of_nonneg hpos]; linarith)
  rw [abs_of_nonneg hpos] at htaylor
  have h2lo := pow_le_pow_left₀ (by norm_num) hlo 2
  have h2hi := pow_le_pow_left₀ hpos hhi 2
  have h4hi := pow_le_pow_left₀ hpos hhi 4
  obtain ⟨htlo, hthi⟩ := abs_le.mp htaylor
  norm_num at h2lo h2hi h4hi
  rw [abs_le]
  constructor <;> norm_num [unitTurn] <;> linarith

theorem abs_unitTurn_im_sub_sin_le : |unitTurn.im / 2 ^ 48 - Real.sin (Real.pi / 2048)| ≤ 1 / 2 ^ 40 := by
  obtain ⟨hlo, hhi⟩ := romStep_bounds
  have hpos : 0 ≤ Real.pi / 2048 := by positivity
  have htaylor := Real.sin_bound (x := Real.pi / 2048) (by rw [abs_of_nonneg hpos]; linarith)
  rw [abs_of_nonneg hpos] at htaylor
  have h3lo := pow_le_pow_left₀ (by norm_num) hlo 3
  have h3hi := pow_le_pow_left₀ hpos hhi 3
  have h5hi := pow_le_pow_left₀ hpos hhi 5
  obtain ⟨htlo, hthi⟩ := abs_le.mp htaylor
  norm_num at h3lo h3hi h5hi
  rw [abs_le]
  constructor <;> norm_num [unitTurn] <;> linarith

/-- The rounded turn is the exact one up to `2^-39`: `2^-40` in each coordinate. -/
theorem norm_unitTurn_sub_exactTurn_le : ‖unitTurn.toComplex - exactTurn‖ ≤ 1 / 2 ^ 39 := by
  refine (Complex.norm_le_abs_re_add_abs_im _).trans ?_
  rw [Complex.sub_re, Complex.sub_im, exactTurn_re, exactTurn_im]
  exact (add_le_add abs_unitTurn_re_sub_cos_le abs_unitTurn_im_sub_sin_le).trans (by norm_num)

/-- Rounding a product of two grid coordinates down to the grid loses at most one unit. -/
theorem abs_ediv_grid_sub_le (m : Int) :
    |((m / 2 ^ 48 : Int) : ℝ) / 2 ^ 48 - (m : ℝ) / 2 ^ 96| ≤ 1 / 2 ^ 48 := by
  have hle : (((m / 2 ^ 48) * 2 ^ 48 : Int) : ℝ) ≤ (m : Int) := Int.cast_le.mpr (by omega)
  have hge : ((m : Int) : ℝ) ≤ ((m / 2 ^ 48) * 2 ^ 48 + 2 ^ 48 : Int) := Int.cast_le.mpr (by omega)
  push_cast at hle hge
  rw [abs_le]
  constructor <;> linarith

/-- The exact product of two grid points, on the grid of `2^-96`. -/
theorem toComplex_mul_toComplex (p q : GridPoint) :
    p.toComplex * q.toComplex = ⟨((p * q).re : ℝ) / 2 ^ 96, ((p * q).im : ℝ) / 2 ^ 96⟩ := by
  apply Complex.ext
  · simp only [Complex.mul_re, toComplex_re, toComplex_im, Zsqrtd.re_mul]
    push_cast
    ring
  · simp only [Complex.mul_im, toComplex_re, toComplex_im, Zsqrtd.im_mul]
    push_cast
    ring

/-- A turn is the complex product up to one grid unit in each coordinate. -/
theorem norm_turn_sub_mul_le (p : GridPoint) :
    ‖p.turn.toComplex - p.toComplex * unitTurn.toComplex‖ ≤ 1 / 2 ^ 47 := by
  refine (Complex.norm_le_abs_re_add_abs_im _).trans ?_
  rw [toComplex_mul_toComplex]
  exact (add_le_add (abs_ediv_grid_sub_le _) (abs_ediv_grid_sub_le _)).trans (by norm_num)

/-- Each turn adds at most `2^-38` to the error. -/
theorem norm_turned_sub_pow_le (n : Nat) : ‖(turned n).toComplex - exactTurn ^ n‖ ≤ n / 2 ^ 38 := by
  induction n with
  | zero =>
    have hone : (turned 0).toComplex = 1 := by
      apply Complex.ext <;> norm_num [turned, one]
    simp [hone]
  | succ n ih =>
    set w := (turned n).toComplex
    have hround : ‖(turned (n + 1)).toComplex - w * unitTurn.toComplex‖ ≤ 1 / 2 ^ 47 :=
      norm_turn_sub_mul_le (turned n)
    have hcarried : ‖(w - exactTurn ^ n) * unitTurn.toComplex‖ ≤ n / 2 ^ 38 := by
      rw [norm_mul]
      exact (mul_le_of_le_one_right (norm_nonneg _) norm_unitTurn_le).trans ih
    have hangle : ‖exactTurn ^ n * (unitTurn.toComplex - exactTurn)‖ ≤ 1 / 2 ^ 39 := by
      rw [norm_mul, norm_pow, norm_exactTurn, one_pow, one_mul]
      exact norm_unitTurn_sub_exactTurn_le
    calc ‖(turned (n + 1)).toComplex - exactTurn ^ (n + 1)‖
        = ‖((turned (n + 1)).toComplex - w * unitTurn.toComplex) +
            (w - exactTurn ^ n) * unitTurn.toComplex +
            exactTurn ^ n * (unitTurn.toComplex - exactTurn)‖ := by ring_nf
      _ ≤ 1 / 2 ^ 47 + n / 2 ^ 38 + 1 / 2 ^ 39 :=
          norm_add₃_le.trans (add_le_add_three hround hcarried hangle)
      _ ≤ ((n + 1 : Nat) : ℝ) / 2 ^ 38 := by push_cast; linarith

/-- On the quarter wave the height of the turned grid point is the sine up to `2^-28`. -/
theorem abs_turned_im_sub_sin_le {n : Nat} (hn : n ≤ 1024) :
    |((turned n).im : ℝ) / 2 ^ 48 - Real.sin (n * (Real.pi / 2048))| ≤ 1 / 2 ^ 28 := by
  have hle : (n : ℝ) ≤ 1024 := by exact_mod_cast hn
  calc |((turned n).im : ℝ) / 2 ^ 48 - Real.sin (n * (Real.pi / 2048))|
      = |((turned n).toComplex - exactTurn ^ n).im| := by
        rw [Complex.sub_im, exactTurn_pow_im, toComplex_im]
    _ ≤ ‖(turned n).toComplex - exactTurn ^ n‖ := Complex.abs_im_le_norm _
    _ ≤ n / 2 ^ 38 := norm_turned_sub_pow_le n
    _ ≤ 1 / 2 ^ 28 := by linarith

/-- Every entry of the quarter table is closer than one half to 65536 times the sine (R52, R56). -/
theorem abs_quarter_sub_sin_lt {j : Nat} (hj : j ≤ 1024) :
    |(quarter j : ℝ) - 65536 * Real.sin (j * (Real.pi / 2048))| < 1 / 2 := by
  have hfits := entryFits_turned hj
  rw [entryFits, decide_eq_true_iff] at hfits
  have hbelow : ((2 ^ 32 * quarter j - (turned j).im : Int) : ℝ) < (2 ^ 31 - 2 ^ 20 : Int) :=
    Int.cast_lt.mpr (by omega)
  have habove : ((-(2 ^ 31 - 2 ^ 20) : Int) : ℝ) < (2 ^ 32 * quarter j - (turned j).im : Int) :=
    Int.cast_lt.mpr (by omega)
  obtain ⟨hsin_lo, hsin_hi⟩ := abs_le.mp (abs_turned_im_sub_sin_le hj)
  push_cast at hbelow habove
  rw [abs_lt]
  constructor <;> linarith

/-! ## From the quarter wave to the whole wave -/

/-- The sine folds onto the quarter wave as the ROM does (R54). -/
theorem sin_romAngle_of_lt_half {i : Nat} (hi : i < 2048) :
    Real.sin (2 * Real.pi * i / 4096) = Real.sin (quarterIndex i * (Real.pi / 2048)) := by
  rcases le_or_gt i 1024 with hle | hgt
  · rw [quarterIndex_of_le hle]
    congr 1
    ring
  · have hfold : quarterIndex i = 2048 - i := by
      rw [← quarterIndex_mirror hi.le, quarterIndex_of_le (by omega)]
    rw [hfold, ← Real.sin_pi_sub, Nat.cast_sub hi.le]
    congr 1
    push_cast
    ring

/-- Half a wave later the sine is negated (R54). -/
theorem sin_romAngle_add_half (i : Nat) :
    Real.sin (2 * Real.pi * (2048 + i : Nat) / 4096) = -Real.sin (2 * Real.pi * i / 4096) := by
  rw [← Real.sin_add_pi]
  congr 1
  push_cast
  ring

theorem abs_romValue_sub_sin_lt_of_lt_half {i : Nat} (hi : i < 2048) :
    |(romValue i : ℝ) - 65536 * Real.sin (2 * Real.pi * i / 4096)| < 1 / 2 := by
  rw [romValue, if_pos hi, sin_romAngle_of_lt_half hi, Int.cast_natCast]
  exact abs_quarter_sub_sin_lt (quarterIndex_le i)

/-- The integer every ROM word spells is closer than one half to 65536 times the sine (R52). -/
theorem abs_romValue_sub_sin_lt {i : Nat} (hi : i < 4096) :
    |(romValue i : ℝ) - 65536 * Real.sin (2 * Real.pi * i / 4096)| < 1 / 2 := by
  rcases lt_or_ge i 2048 with hfirst | hsecond
  · exact abs_romValue_sub_sin_lt_of_lt_half hfirst
  · obtain ⟨k, rfl⟩ := Nat.exists_eq_add_of_le hsecond
    have hk : k < 2048 := by omega
    have hhalf := abs_romValue_sub_sin_lt_of_lt_half hk
    rw [romValue_add_half hk, sin_romAngle_add_half, Int.cast_neg, mul_neg, neg_sub_neg, abs_sub_comm]
    exact hhalf

/-- Settles O14: the integer a ROM word spells is the nearest one, so it is the one `fromFloat` takes. -/
theorem romMatchesSine : Obligations.RomMatchesSine := by
  intro i hi
  have hnear := abs_romValue_sub_sin_lt hi
  rw [romWord_toInt]
  refine ⟨?_, hnear⟩
  rw [fromFloat, mul_comm, roundNearest_eq_of_abs_sub_lt hnear, romWord_eq_word_romValue]

end Sys2Proof.Machine

/-! ## The fields of a command word and the instruction they spell (R62, R63, R65) -/

namespace Sys2Proof

/-- The opcode of each instruction (R65). -/
def Instr.opcode : Instr → BitVec 4
  | .add _ _ => 0x1#4
  | .sub _ _ => 0x2#4
  | .neg _ _ => 0x3#4
  | .mul _ _ => 0x4#4
  | .set _ _ _ => 0x8#4
  | .iter _ _ _ => 0x9#4

/-- The field `ch` of each instruction, zero for the four ALU commands (R62). -/
def Instr.ch : Instr → ChannelNo
  | .set ch _ _ => ch
  | .iter ch _ _ => ch
  | _ => 0#8

/-- Operand word `A` of each instruction (R63). -/
def Instr.operandA : Instr → Word
  | .add a _ | .sub a _ | .neg a _ | .mul a _ | .set _ a _ | .iter _ a _ => a

/-- Operand word `B` of each instruction (R63). -/
def Instr.operandB : Instr → Word
  | .add _ b | .sub _ b | .neg _ b | .mul _ b | .set _ _ b | .iter _ _ b => b

theorem encode_eq (i : Instr) : encode i = ⟨commandWord i.ch i.opcode, i.operandA, i.operandB⟩ := by
  cases i <;> rfl

theorem commandWord_ch (ch : ChannelNo) (op : BitVec 4) (a b : Word) :
    (Command.mk (commandWord ch op) a b).ch = ch := by
  rw [Command.ch, commandWord, BitVec.extractLsb'_append_eq_of_le (by decide),
    BitVec.extractLsb'_append_eq_of_le (by decide), BitVec.extractLsb'_append_eq_right]

theorem commandWord_opcode (ch : ChannelNo) (op : BitVec 4) (a b : Word) :
    (Command.mk (commandWord ch op) a b).opcode = op :=
  BitVec.extractLsb'_append_eq_right

/-- A command word is its four fields, one after the other (R62). -/
theorem Command.cmd_eq_fields (c : Command) : c.cmd = c.rsvHi ++ c.ch ++ c.rsvLo ++ c.opcode := by
  rw [rsvHi, ch, rsvLo, opcode,
    BitVec.extractLsb'_append_extractLsb'_eq_extractLsb' (show 16 = 8 + 8 from rfl),
    BitVec.extractLsb'_append_extractLsb'_eq_extractLsb' (show 8 = 4 + 4 from rfl),
    BitVec.extractLsb'_append_extractLsb'_eq_extractLsb' (show 4 = 0 + 4 from rfl)]
  exact BitVec.extractLsb'_eq_self.symm

/-- The fields of the command are those of the instruction, and the reserved ones are zero. Decoding and
encoding are each compared with this. -/
structure Spells (c : Command) (i : Instr) : Prop where
  rsvHi : c.rsvHi = 0#16
  rsvLo : c.rsvLo = 0#4
  ch : c.ch = i.ch
  opcode : c.opcode = i.opcode
  a : c.a = i.operandA
  b : c.b = i.operandB

theorem encode_spells (i : Instr) : Spells (encode i) i := by
  rw [encode_eq]
  obtain ⟨hhi, hlo⟩ := Laws.commandWord_reserved i.ch i.opcode i.operandA i.operandB
  exact ⟨hhi, hlo, commandWord_ch .., commandWord_opcode .., rfl, rfl⟩

/-- No other command has the fields of an instruction's encoding. -/
theorem Spells.encode_eq {c : Command} {i : Instr} (h : Spells c i) : encode i = c := by
  have hcmd : c.cmd = commandWord i.ch i.opcode := by
    rw [c.cmd_eq_fields, h.rsvHi, h.rsvLo, h.ch, h.opcode, commandWord]
  rw [Sys2Proof.encode_eq, ← hcmd, ← h.a, ← h.b]

theorem encode_eq_iff_spells {c : Command} {i : Instr} : encode i = c ↔ Spells c i := by
  refine ⟨?_, Spells.encode_eq⟩
  rintro rfl
  exact encode_spells i

theorem decodeAlu_ok_iff {c : Command} {i j : Instr} : decodeAlu c i = .ok j ↔ c.ch = 0#8 ∧ i = j := by
  unfold decodeAlu
  split <;> simp_all

/-- Along the branches of the decoder: what it answers has the fields of the command. -/
theorem spells_of_decode {c : Command} {i : Instr} (h : decode c = .ok i) : Spells c i := by
  unfold decode at h
  split at h
  next hrsv =>
    obtain ⟨hhi, hlo⟩ := hrsv
    have alu : ∀ {j : Instr}, decodeAlu c j = .ok i → c.opcode = j.opcode → j.ch = 0#8 →
        j.operandA = c.a → j.operandB = c.b → Spells c i := by
      intro j hj hop hjch ha hb
      obtain ⟨hch, rfl⟩ := decodeAlu_ok_iff.mp hj
      exact ⟨hhi, hlo, hch.trans hjch.symm, hop, ha.symm, hb.symm⟩
    split at h
    next hop => exact alu h hop rfl rfl rfl
    split at h
    next hop => exact alu h hop rfl rfl rfl
    split at h
    next hop => exact alu h hop rfl rfl rfl
    split at h
    next hop => exact alu h hop rfl rfl rfl
    split at h
    next hop => cases h; exact ⟨hhi, hlo, rfl, hop, rfl, rfl⟩
    split at h
    next hop => cases h; exact ⟨hhi, hlo, rfl, hop, rfl, rfl⟩
    cases h
  next => cases h

/-- For each of the six opcodes the decoder reaches its own branch. -/
theorem Spells.decode_eq {c : Command} {i : Instr} (h : Spells c i) : decode c = .ok i := by
  obtain ⟨hhi, hlo, hch, hop, ha, hb⟩ := h
  simp only [decode, decodeAlu, hhi, hlo, hch, hop, ha, hb]
  cases i <;> rfl

theorem decode_ok_iff_spells {c : Command} {i : Instr} : decode c = .ok i ↔ Spells c i :=
  ⟨spells_of_decode, Spells.decode_eq⟩

theorem decode_encode (i : Instr) : decode (encode i) = .ok i := (encode_spells i).decode_eq

end Sys2Proof

namespace Sys2Proof.Machine

/-- Settles O41: the decoder and the encoder are both the agreement of the fields. -/
theorem decodeEncodeAgree : Obligations.DecodeEncodeAgree :=
  fun _ _ => decode_ok_iff_spells.trans encode_eq_iff_spells.symm

/-- Settles O42: the first six words are the encodings of the instructions listed. -/
theorem opcodeMapWords : Obligations.OpcodeMapWords := fun a b =>
  ⟨decode_encode (.add a b), decode_encode (.sub a b), decode_encode (.neg a b),
    decode_encode (.mul a b), decode_encode (.set 1#8 a b), decode_encode (.iter 255#8 a b),
    by simp [decode, Command.rsvHi, Command.rsvLo, Command.opcode]⟩

/-! ## A command as a step (R16, R60) -/

theorem issue_of_decode {c : Command} {i : Instr} (h : decode c = .ok i) (s : State) :
    issue c s = exec i s := by
  simp only [issue, h]

theorem issue_of_reject {c : Command} {e : Reject} (h : decode c = .error e) (s : State) :
    issue c s = illegalCommand s := by
  simp only [issue, h]

/-- A step at which a command is next issues it (R60). -/
theorem step_of_command {s : State} {c : Command} {rest : List Input}
    (h : s.inputs = .command c :: rest) : step s = issue c (s.setInputs rest) :=
  step_of_inputs_cons h

/-- The command placed by `withFetchWord` is issued on the state it was placed in. -/
theorem step_withFetchWord (s : State) (nbits w : Nat) :
    step (s.withFetchWord nbits w) = issue (commandOfBits nbits w) s :=
  step_of_command rfl

theorem decode_of_decodeTableWord {nbits w : Nat} {i : Instr} (h : decodeTableWord nbits w = some i) :
    decode (commandOfBits nbits w) = .ok i := by
  unfold decodeTableWord at h
  split at h
  · next j hj => rw [hj, Option.some.inj h]
  · cases h

/-- Settles O43. -/
theorem stepRunsDecoded : Obligations.StepRunsDecoded := by
  refine ⟨fun s c rest i hin hd => ?_, fun s nbits w i hd => ?_⟩
  · exact (step_of_command hin).trans (issue_of_decode hd _)
  · exact (step_withFetchWord s nbits w).trans (issue_of_decode (decode_of_decodeTableWord hd) s)

end Sys2Proof.Machine

/-! ## The commands that are illegal (R66) -/

namespace Sys2Proof.Machine

/-- Of a command that spells an instruction, only condition 4 of R66 can be met. -/
theorem specIllegal_iff_of_spells {c : Command} {i : Instr} (h : Spells c i) (n : Nat) :
    specIllegal n c.cmd ↔ i.wellFormed n = false := by
  obtain ⟨hhi, hlo, hch, hop, -, -⟩ := h
  rw [Command.rsvHi] at hhi
  rw [Command.rsvLo] at hlo
  rw [Command.ch] at hch
  rw [Command.opcode] at hop
  cases i <;> simp [specIllegal, Instr.wellFormed, hhi, hlo, hch, hop, Instr.ch, Instr.opcode]

/-- A command word that meets none of the conditions of R66 spells an instruction (R65). -/
theorem exists_spells_of_not_specIllegal {c : Command} {n : Nat} (h : ¬ specIllegal n c.cmd) :
    ∃ i, Spells c i := by
  simp only [specIllegal, not_or] at h
  obtain ⟨hop, hrsv, halu, -⟩ := h
  obtain ⟨hhi, hlo⟩ : c.rsvHi = 0#16 ∧ c.rsvLo = 0#4 := hrsv.imp not_not.mp not_not.mp
  have hch (ho : c.opcode ∈ [0x1#4, 0x2#4, 0x3#4, 0x4#4]) : c.ch = 0#8 :=
    by_contra fun hne => halu ⟨ho, hne⟩
  have hmem : c.opcode ∈ [0x1#4, 0x2#4, 0x3#4, 0x4#4, 0x8#4, 0x9#4] := not_not.mp hop
  simp only [List.mem_cons, List.not_mem_nil, or_false] at hmem
  obtain ho | ho | ho | ho | ho | ho := hmem
  · exact ⟨.add c.a c.b, hhi, hlo, hch (by simp [ho]), ho, rfl, rfl⟩
  · exact ⟨.sub c.a c.b, hhi, hlo, hch (by simp [ho]), ho, rfl, rfl⟩
  · exact ⟨.neg c.a c.b, hhi, hlo, hch (by simp [ho]), ho, rfl, rfl⟩
  · exact ⟨.mul c.a c.b, hhi, hlo, hch (by simp [ho]), ho, rfl, rfl⟩
  · exact ⟨.set c.ch c.a c.b, hhi, hlo, rfl, ho, rfl, rfl⟩
  · exact ⟨.iter c.ch c.a c.b, hhi, hlo, rfl, ho, rfl, rfl⟩

/-! ## What a running block makes of a command (R61, R66, R128) -/

/-- The result of an instruction that completes, and none for a MUL out of range (R61, R85 to R88). -/
def result : Instr → Option Word
  | .add a b => some (add32 a b)
  | .sub a b => some (sub32 a b)
  | .neg a _ => some (neg32 a)
  | .mul a b => mul32 a b
  | .set _ _ _ => some 0#32
  | .iter _ _ _ => some 0#32

/-- The instruction has completed: `STATUS` is kept, and the response carries it and the result (R61). -/
def Completed (i : Instr) (s t : State) : Prop :=
  t.status = s.status ∧ ∃ r, result i = some r ∧ t.response = some ⟨s.status, some r⟩

theorem exists_channel? {s : State} {ch : ChannelNo} (h : ch.toNat < s.nosc) :
    ∃ c, s.channel? ch = some c :=
  ⟨_, List.getElem?_eq_getElem h⟩

theorem channel?_eq_none {s : State} {ch : ChannelNo} (h : s.nosc ≤ ch.toNat) :
    s.channel? ch = none :=
  List.getElem?_eq_none h

/-- A faulted block does not execute the instruction (R125). -/
theorem exec_faulted {s : State} (hf : s.faulted = true) (i : Instr) :
    exec i s = .next s.answerFaulted := by
  cases i <;> exact whenRunning_faulted hf _

theorem issue_faulted {s : State} (hf : s.faulted = true) (c : Command) :
    issue c s = .next s.answerFaulted := by
  cases hd : decode c with
  | ok i => exact (issue_of_decode hd s).trans (exec_faulted hf i)
  | error e => exact (issue_of_reject hd s).trans (whenRunning_faulted hf _)

/-- An instruction that is not well formed addresses a channel there is not (R66 condition 4). -/
theorem exec_illFormed {i : Instr} {s : State} (hf : s.faulted = false)
    (hwf : i.wellFormed s.nosc = false) : exec i s = .next (s.raise .illegalCommand) := by
  cases i with
  | add | sub | neg | mul => cases hwf
  | set ch a b =>
    have hc : s.channel? ch = none := channel?_eq_none (by simpa [Instr.wellFormed] using hwf)
    simp [exec, execSet, hf, hc]
  | iter ch len b =>
    have hc : s.channel? ch = none := channel?_eq_none (by simpa [Instr.wellFormed] using hwf)
    simp [exec, execIter, hf, hc]

/-- MUL completes or is out of range (R88, R122). -/
theorem execMul_completes_or_raises {s : State} (hf : s.faulted = false) (a b : Word) :
    ∃ t, execMul a b s = .next t ∧ (Completed (.mul a b) s t ∨ t = s.raise .mulRange) := by
  cases hm : mul32 a b with
  | none => exact ⟨_, by simp [execMul, hf, hm], .inr rfl⟩
  | some r => exact ⟨s.respond r, by simp [execMul, hf, hm], .inl ⟨rfl, r, hm, rfl⟩⟩

/-- SET of an existing channel completes (R100). -/
theorem execSet_completes {s : State} {ch : ChannelNo} (hf : s.faulted = false)
    (hch : ch.toNat < s.nosc) (a b : Word) :
    ∃ t, execSet ch a b s = .next t ∧ Completed (.set ch a b) s t := by
  obtain ⟨c, hc⟩ := exists_channel? hch
  exact ⟨(s.setChannel ch
      { c with
        astep := asr32 (sub32 a c.amp) Config.bufBits
        pstep := asr32 b Config.bufBits }).respond 0#32,
    by simp [execSet, hf, hc], rfl, 0#32, rfl, rfl⟩

/-- ITER of an existing channel completes or has the wrong length; its samples do not raise (R102, R105). -/
theorem execIter_completes_or_raises {s : State} {ch : ChannelNo} (hf : s.faulted = false)
    (hch : ch.toNat < s.nosc) (len b : Word) :
    ∃ t, execIter ch len b s = .next t ∧ (Completed (.iter ch len b) s t ∨ t = s.raise .sizeMismatch) := by
  obtain ⟨c, hc⟩ := exists_channel? hch
  obtain ⟨w, hw⟩ := iterBlock_never_raises s.bufGen c s.buf
  cases hl : lenMatches len with
  | false => exact ⟨_, by simp [execIter, hf, hc, hl], .inr rfl⟩
  | true =>
    exact ⟨((s.setBuf w.buf).setChannel ch { c with amp := w.a, phase := w.p }).respond 0#32,
      by simp [execIter, hf, hc, hl, hw], .inl ⟨rfl, 0#32, rfl, rfl⟩⟩

/-- A well-formed instruction completes, or raises MulRange or SizeMismatch (R128). -/
theorem exec_wellFormed {i : Instr} {s : State} (hf : s.faulted = false)
    (hwf : i.wellFormed s.nosc = true) :
    ∃ t, exec i s = .next t ∧
      (Completed i s t ∨ ∃ f ∈ [FaultCause.mulRange, .sizeMismatch], t = s.raise f) := by
  cases i with
  | add a b => exact ⟨_, whenRunning_running hf _, .inl ⟨rfl, _, rfl, rfl⟩⟩
  | sub a b => exact ⟨_, whenRunning_running hf _, .inl ⟨rfl, _, rfl, rfl⟩⟩
  | neg a b => exact ⟨_, whenRunning_running hf _, .inl ⟨rfl, _, rfl, rfl⟩⟩
  | mul a b =>
    obtain ⟨t, ht, hout⟩ := execMul_completes_or_raises hf a b
    exact ⟨t, ht, hout.imp id fun h => ⟨_, by simp, h⟩⟩
  | set ch a b =>
    obtain ⟨t, ht, hdone⟩ := execSet_completes hf (of_decide_eq_true hwf) a b
    exact ⟨t, ht, .inl hdone⟩
  | iter ch len b =>
    obtain ⟨t, ht, hout⟩ := execIter_completes_or_raises hf (of_decide_eq_true hwf) len b
    exact ⟨t, ht, hout.imp id fun h => ⟨_, by simp, h⟩⟩

/-- A command word of R66 raises IllegalCommand, spelled or not (R123). -/
theorem issue_of_specIllegal {c : Command} {s : State} (hf : s.faulted = false)
    (h : specIllegal s.nosc c.cmd) : issue c s = .next (s.raise .illegalCommand) := by
  cases hd : decode c with
  | error e => exact (issue_of_reject hd s).trans (whenRunning_running hf _)
  | ok i =>
    have hwf := (specIllegal_iff_of_spells (spells_of_decode hd) s.nosc).mp h
    exact (issue_of_decode hd s).trans (exec_illFormed hf hwf)

theorem decode_of_not_specIllegal {c : Command} {n : Nat} (h : ¬ specIllegal n c.cmd) :
    ∃ i, decode c = .ok i ∧ i.wellFormed n = true := by
  obtain ⟨i, hi⟩ := exists_spells_of_not_specIllegal h
  exact ⟨i, hi.decode_eq, by simpa [specIllegal_iff_of_spells hi] using h⟩

theorem status_ne_illegalCommand :
    ∀ f ∈ [FaultCause.mulRange, .sizeMismatch], f.status ≠ 0xD#4 := by
  decide

/-- Settles O28: IllegalCommand comes from the words of R66, and no well-formed instruction raises it. -/
theorem illegalExactly : Obligations.IllegalExactly := by
  intro c s hs
  have hf := faulted_of_status_zero hs
  refine ⟨fun hill => issue_of_specIllegal hf hill, fun hlegal => ?_⟩
  obtain ⟨i, hd, hwf⟩ := decode_of_not_specIllegal hlegal
  obtain ⟨t, ht, hout⟩ := exec_wellFormed hf hwf
  have hissue := issue_of_decode hd s
  refine ⟨i, t, hd, hwf, hissue, hissue.trans ht, ?_⟩
  obtain ⟨hstatus, -⟩ | ⟨f, hmem, rfl⟩ := hout
  · rw [hstatus, hs]
    decide
  · exact status_ne_illegalCommand f hmem

/-! ## The response to a command (R61) -/

/-- A response that reports a fault: the `STATUS` of the state, not zero, and no result. -/
def AnswersFault (t : State) : Prop :=
  t.status ≠ 0x0#4 ∧ t.response = some ⟨t.status, none⟩

theorem status_ne_zero_of_faulted {s : State} (hf : s.faulted = true) : s.status ≠ 0x0#4 :=
  fun h => Bool.false_ne_true ((faulted_of_status_zero h).symm.trans hf)

theorem raise_answersFault (s : State) (f : FaultCause) : AnswersFault (s.raise f) :=
  ⟨status_ne_zero_of_faulted (State.raise_faulted s f), rfl⟩

theorem answerFaulted_answersFault {s : State} (hf : s.faulted = true) : AnswersFault s.answerFaulted :=
  ⟨status_ne_zero_of_faulted hf, rfl⟩

/-- Every command ends in a response that reports a fault, or completes on a running block (R61, R128). -/
theorem issue_answers (c : Command) (s : State) :
    ∃ t, issue c s = .next t ∧
      (AnswersFault t ∨ s.faulted = false ∧ ∃ i, decode c = .ok i ∧ Completed i s t) := by
  cases hf : s.faulted with
  | true => exact ⟨_, issue_faulted hf c, .inl (answerFaulted_answersFault hf)⟩
  | false =>
    by_cases hill : specIllegal s.nosc c.cmd
    · exact ⟨_, issue_of_specIllegal hf hill, .inl (raise_answersFault s _)⟩
    · obtain ⟨i, hd, hwf⟩ := decode_of_not_specIllegal hill
      obtain ⟨t, ht, hdone | ⟨f, -, rfl⟩⟩ := exec_wellFormed hf hwf
      · exact ⟨t, (issue_of_decode hd s).trans ht, .inr ⟨rfl, i, hd, hdone⟩⟩
      · exact ⟨_, (issue_of_decode hd s).trans ht, .inl (raise_answersFault s f)⟩

/-- Settles O44. -/
theorem everyCommandIsAnswered : Obligations.EveryCommandIsAnswered := by
  intro s c rest hlegal hin
  obtain ⟨t, ht, ⟨hne, hresp⟩ | ⟨hf, i, hd, hstatus, r, hr, hresp⟩⟩ := issue_answers c (s.setInputs rest)
  · exact ⟨t, ⟨t.status, none⟩, (step_of_command hin).trans ht, hresp, rfl, fun _ => rfl,
      fun h => absurd h hne⟩
  · have hzero : t.status = 0x0#4 := hstatus.trans (legalStatus_running hlegal hf)
    refine ⟨t, _, (step_of_command hin).trans ht, hresp, hstatus.symm, fun h => absurd hzero h,
      fun _ => ⟨rfl, i, hd, ?_⟩⟩
    cases i <;> exact hr.symm

end Sys2Proof.Machine

/-! ## The word of an integer (spec/00_scope.md section 5.1) -/

namespace Sys2Proof.Machine

theorem word_add (m n : Int) : word (m + n) = word m + word n := BitVec.ofInt_add m n

theorem word_neg (n : Int) : word (-n) = -word n := BitVec.ofInt_neg

theorem word_sub (m n : Int) : word (m - n) = word m - word n := by
  rw [Int.sub_eq_add_neg, word_add, word_neg, BitVec.sub_eq_add_neg]

@[simp] theorem word_toInt (a : Word) : word a.toInt = a := BitVec.ofInt_toInt

/-- Integers are read modulo `2^32`. -/
theorem word_two_pow_sub (n : Int) : word (2 ^ 32 - n) = word (-n) := by
  have hfull : word (2 ^ 32) = 0#32 := by decide
  rw [word_sub, word_neg, hfull, BitVec.zero_sub]

/-- The signed reading of the word of an integer is the one integer of the signed range that agrees with it
modulo `2^32`. -/
theorem toInt_word_spec (n : Int) :
    -2 ^ 31 ≤ (word n).toInt ∧ (word n).toInt < 2 ^ 31 ∧ (2 ^ 32 : Int) ∣ (word n).toInt - n := by
  refine ⟨BitVec.le_toInt _, BitVec.toInt_lt, ?_⟩
  rw [word, BitVec.toInt_ofInt]
  exact Int.dvd_bmod_sub_self

theorem add32_word (m n : Int) : add32 (word m) (word n) = word (m + n) := by
  rw [add32_eq, word_add]

theorem sub32_word (m n : Int) : sub32 (word m) (word n) = word (m - n) := by
  rw [sub32_eq, word_sub]

theorem neg32_word (n : Int) : neg32 (word n) = word (-n) := by
  rw [neg32_eq, word_neg]

/-! ## The product in closed form (R83, R91, R93) -/

theorem toInt_mul_nonneg_of_msb_eq {a b : Word} (h : a.msb = b.msb) : 0 ≤ a.toInt * b.toInt := by
  rw [BitVec.msb_eq_toInt, BitVec.msb_eq_toInt, decide_eq_decide] at h
  rcases lt_or_ge a.toInt 0 with ha | ha
  · exact Int.mul_nonneg_of_nonpos_of_nonpos ha.le (h.mp ha).le
  · exact Int.mul_nonneg ha (not_lt.mp (mt h.mpr ha.not_gt))

theorem toInt_mul_nonpos_of_msb_ne {a b : Word} (h : a.msb ≠ b.msb) : a.toInt * b.toInt ≤ 0 := by
  rw [BitVec.msb_eq_toInt, BitVec.msb_eq_toInt, ne_eq, decide_eq_decide] at h
  rcases lt_or_ge a.toInt 0 with ha | ha
  · exact Int.mul_nonpos_of_nonpos_of_nonneg ha.le (by omega)
  · exact Int.mul_nonpos_of_nonneg_of_nonpos ha (by omega)

/-- The rescaled magnitude product is the magnitude of the truncated quotient (R91). -/
theorem rescaledProduct_eq (a b : Word) :
    rescaledProduct a b = ((a.toInt * b.toInt).tdiv 65536).natAbs := by
  rw [rescaledProduct, magnitude_eq, magnitude_eq, Int.natAbs_tdiv, Int.natAbs_mul]
  rfl

/-- Negated where the signs differ, the rescaled magnitude product is the truncated quotient (R91). -/
theorem signed_rescaledProduct (a b : Word) :
    (if a.msb = b.msb then word (rescaledProduct a b) else word (2 ^ 32 - rescaledProduct a b)) =
      word ((a.toInt * b.toInt).tdiv 65536) := by
  rw [rescaledProduct_eq]
  split
  · next h =>
    have ht := Int.tdiv_nonneg (toInt_mul_nonneg_of_msb_eq h) (b := 65536) (by decide)
    rw [Int.natAbs_of_nonneg ht]
  · next h =>
    have ht := Int.tdiv_nonneg (Int.neg_nonneg.mpr (toInt_mul_nonpos_of_msb_ne h)) (b := 65536) (by decide)
    rw [Int.neg_tdiv] at ht
    rw [word_two_pow_sub, Int.ofNat_natAbs_of_nonpos (by omega), Int.neg_neg]

/-- `mul32` raises exactly when the magnitude product reaches `2^48` (R88, R91). -/
theorem mul32_eq_none_iff_natAbs (a b : Word) :
    mul32 a b = none ↔ 2 ^ 48 ≤ a.toInt.natAbs * b.toInt.natAbs := by
  rw [mul32_eq_none_iff, rescaledProduct, magnitude_eq, magnitude_eq, Config.fracBits,
    Nat.le_div_iff_mul_le (by decide), ← Nat.pow_add]

/-- Below the threshold `mul32` is the truncated quotient (R91). -/
theorem mul32_eq_some_tdiv {a b : Word} (h : a.toInt.natAbs * b.toInt.natAbs < 2 ^ 48) :
    mul32 a b = some (word ((a.toInt * b.toInt).tdiv 65536)) := by
  have hfits : rescaledProduct a b < 2 ^ 32 := by
    rw [← not_le, ← mul32_eq_none_iff, mul32_eq_none_iff_natAbs]
    omega
  rw [mul32_eq_some hfits, signed_rescaledProduct]

theorem mul32_closed (a b : Word) :
    mul32 a b = if 2 ^ 48 ≤ a.toInt.natAbs * b.toInt.natAbs then none
      else some (word ((a.toInt * b.toInt).tdiv 65536)) := by
  split
  · next h => exact (mul32_eq_none_iff_natAbs a b).mpr h
  · next h => exact mul32_eq_some_tdiv (not_le.mp h)

theorem eq_word_of_mul32_eq_some {a b r : Word} (h : mul32 a b = some r) :
    r = word ((a.toInt * b.toInt).tdiv 65536) := by
  rw [mul32_closed] at h
  split at h <;> cases h
  rfl

theorem mul32_comm (a b : Word) : mul32 a b = mul32 b a := by
  rw [mul32_closed, mul32_closed, Int.mul_comm, Nat.mul_comm]

theorem toInt_natAbs_le (a : Word) : a.toInt.natAbs ≤ 2 ^ 31 :=
  magnitude_eq a ▸ magnitude_le a

theorem mul32_zero (a : Word) : mul32 a 0#32 = some 0#32 := by
  rw [mul32_eq_some_tdiv (by simp)]
  simp [word]

/-- Multiplying by 1.0 is the identity (R91). -/
theorem mul32_one (a : Word) : mul32 a 0x00010000#32 = some a := by
  have hone : (0x00010000#32 : Word).toInt = 65536 := by decide
  have hfits : a.toInt.natAbs * (65536 : Int).natAbs < 2 ^ 48 :=
    (Nat.mul_le_mul_right _ (toInt_natAbs_le a)).trans_lt (by decide)
  rw [mul32_eq_some_tdiv (hone ▸ hfits), hone, Int.mul_tdiv_cancel _ (by decide), word_toInt]

/-- Multiplying by -1.0 is the negation (R91). -/
theorem mul32_neg_one (a : Word) : mul32 a 0xFFFF0000#32 = some (neg32 a) := by
  have hneg : (0xFFFF0000#32 : Word).toInt = -65536 := by decide
  have hfits : a.toInt.natAbs * (-65536 : Int).natAbs < 2 ^ 48 :=
    (Nat.mul_le_mul_right _ (toInt_natAbs_le a)).trans_lt (by decide)
  rw [mul32_eq_some_tdiv (hneg ▸ hfits), hneg, Int.mul_neg, Int.neg_tdiv,
    Int.mul_tdiv_cancel _ (by decide), ← neg32_word, word_toInt]

/-- The negation passes through the product, but for the word that is its own negation (R91). -/
theorem neg32_of_mul32_neg32 {a b r r' : Word} (ha : a ≠ 0x80000000#32) (h : mul32 a b = some r)
    (h' : mul32 (neg32 a) b = some r') : r' = neg32 r := by
  have hneg : (neg32 a).toInt = -a.toInt := by
    rw [neg32_eq]
    exact BitVec.toInt_neg_of_ne_intMin ha
  rw [eq_word_of_mul32_eq_some h, eq_word_of_mul32_eq_some h', hneg, Int.neg_mul, Int.neg_tdiv, neg32_word]

/-- The truncation makes `mul32` not associative: `(0.5 * 2^-16) * 2.0` loses the bit that
`0.5 * (2^-16 * 2.0)` keeps (R91). -/
theorem mul32_not_assoc : ∃ a b c ab bc l r : Word, mul32 a b = some ab ∧ mul32 ab c = some l ∧
    mul32 b c = some bc ∧ mul32 a bc = some r ∧ l ≠ r :=
  ⟨0x00008000#32, 0x00000001#32, 0x00020000#32, 0#32, 2#32, 0#32, 1#32, by decide⟩

/-- The truncation makes `mul32` not distribute: half of `2^-16` is lost twice where half of their sum is
not lost (R91). -/
theorem mul32_not_distrib : ∃ a b c ab ac r : Word, mul32 a b = some ab ∧ mul32 a c = some ac ∧
    mul32 a (add32 b c) = some r ∧ r ≠ add32 ab ac :=
  ⟨0x00008000#32, 0x00000001#32, 0x00000001#32, 0#32, 0#32, 1#32, by decide⟩

/-- Settles O8. -/
theorem mulClosedForm : Obligations.MulClosedForm :=
  ⟨mul32_closed, mul32_comm,
    fun a => ⟨mul32_zero a, (mul32_comm _ a).trans (mul32_zero a), mul32_one a, mul32_neg_one a⟩,
    fun _ _ _ _ => neg32_of_mul32_neg32, mul32_not_assoc, mul32_not_distrib⟩

/-- Settles O9: the word of the truncated product, read back, is the integer of the signed range that agrees
with it modulo `2^32`. -/
theorem mulRealMeaning : Obligations.MulRealMeaning := by
  rintro a b p t rfl rfl
  have hmul : (a.toInt * b.toInt).natAbs = a.toInt.natAbs * b.toInt.natAbs := Int.natAbs_mul _ _
  have habs : ((a.toInt * b.toInt).tdiv 65536).natAbs = (a.toInt * b.toInt).natAbs / 65536 :=
    Int.natAbs_tdiv _ _
  obtain ⟨hlo, hhi, hmod⟩ := toInt_word_spec ((a.toInt * b.toInt).tdiv 65536)
  refine ⟨fun hsmall => ⟨_, mul32_eq_some_tdiv (by omega), by omega⟩, fun ⟨hge, hlt⟩ => ?_, fun hbig => ?_⟩
  · refine ⟨_, mul32_eq_some_tdiv (by omega), hmod, fun hp => ?_, fun hne => ?_⟩
    · rw [hp]
      decide
    · omega
  · rw [mul32_eq_none_iff_natAbs, ← hmul]
    exact hbig

/-- Settles O10. -/
theorem mulProductFits64 : Obligations.MulProductFits64 := fun a b =>
  have hprod : magnitude a * magnitude b ≤ 2 ^ 31 * 2 ^ 31 :=
    Nat.mul_le_mul (magnitude_le a) (magnitude_le b)
  ⟨magnitude_le a, magnitude_le b, hprod.trans_eq (Nat.pow_add 2 31 31).symm, mul32_eq_none_iff a b⟩

end Sys2Proof.Machine

/-! ## The arithmetic shift (R84) -/

namespace Sys2Proof.Machine

/-- The floor of the signed reading over `2^n` is the sign-filling shift (R84). -/
theorem asr32_eq (a : Word) (n : Nat) : asr32 a n = a.sshiftRight n := by
  rw [asr32, ← word_toInt (a.sshiftRight n), BitVec.toInt_sshiftRight, Int.shiftRight_eq_div_pow,
    Nat.cast_pow, Nat.cast_ofNat]

theorem getLsbD_asr32_of_lt {a : Word} {n i : Nat} (h : i < 32 - n) :
    (asr32 a n).getLsbD i = a.getLsbD (i + n) := by
  rw [asr32_eq, BitVec.getLsbD_sshiftRight, if_pos (by omega), decide_eq_false (by omega), Nat.add_comm]
  rfl

theorem getLsbD_asr32_of_ge {a : Word} {n i : Nat} (h : 32 - n ≤ i) (hi : i < 32) :
    (asr32 a n).getLsbD i = a.getLsbD 31 := by
  rw [asr32_eq, BitVec.getLsbD_sshiftRight, if_neg (by omega), decide_eq_false (by omega),
    BitVec.msb_eq_getLsbD_last]
  rfl

/-- Settles O11. -/
theorem asrIsArithmeticShift : Obligations.AsrIsArithmeticShift :=
  ⟨fun _ _ _ => ⟨rfl, fun _ => getLsbD_asr32_of_lt, fun _ => getLsbD_asr32_of_ge⟩, by decide⟩

end Sys2Proof.Machine

/-! ## `fromFloat` (R95, R96) -/

namespace Sys2Proof.Machine

/-- `roundNearest` takes a neighbour that the fraction does not rule out; at one half it may be either, as
`ROUND_TIE` says (R95). -/
theorem roundNearest_cases (x : ℝ) :
    (roundNearest x = ⌊x⌋ ∧ x - ⌊x⌋ ≤ 1 / 2) ∨ (roundNearest x = ⌊x⌋ + 1 ∧ 1 / 2 ≤ x - ⌊x⌋) := by
  simp only [roundNearest]
  split_ifs with hbelow habove htie
  · exact .inl ⟨rfl, hbelow.le⟩
  · exact .inr ⟨rfl, habove.le⟩
  · exact .inr ⟨rfl, not_lt.mp hbelow⟩
  · exact .inl ⟨rfl, not_lt.mp habove⟩

/-- `roundNearest` is off by at most one half, whatever `ROUND_TIE` is (R95). -/
theorem abs_sub_roundNearest_le (x : ℝ) : |x - roundNearest x| ≤ 1 / 2 := by
  have hlo := Int.floor_le x
  have hhi := Int.lt_floor_add_one x
  rw [abs_le]
  obtain ⟨hround, hfrac⟩ | ⟨hround, hfrac⟩ := roundNearest_cases x
  · rw [hround]
    exact ⟨by linarith, hfrac⟩
  · rw [hround, Int.cast_add, Int.cast_one]
    exact ⟨by linarith, by linarith⟩

theorem roundNearest_intCast (n : ℤ) : roundNearest (n : ℝ) = n :=
  roundNearest_eq_of_abs_sub_lt (by norm_num)

/-- The rationals and the reals are two readings of one definition (R95, log entry 9). -/
theorem roundNearest_ratCast (q : ℚ) : roundNearest (q : ℝ) = roundNearest q := by
  have hfrac : (q : ℝ) - (⌊q⌋ : ℝ) = ((q - ⌊q⌋ : ℚ) : ℝ) := by push_cast; rfl
  have hhalf : (1 / 2 : ℝ) = ((1 / 2 : ℚ) : ℝ) := by norm_num
  simp only [roundNearest, Rat.floor_cast, hfrac, hhalf, Rat.cast_lt]

theorem fromFloat_eq_word {x : ℝ} {n : ℤ} (h : x * 65536 = n) : fromFloat x = word n := by
  rw [fromFloat, h, roundNearest_intCast]

/-- Settles O12. -/
theorem fromFloatIsNearest : Obligations.FromFloatIsNearest := by
  refine ⟨fun x => ⟨⟨_, rfl, abs_sub_roundNearest_le _⟩, fun _ => fromFloat_eq_word⟩, fun q => ?_⟩
  rw [fromFloat, fromFloat, ← roundNearest_ratCast, Rat.cast_mul, Rat.cast_ofNat]

/-- Three roundings are off by less than two in all, so the integers differ by at most one (R96). -/
theorem abs_roundNearest_add_sub_le (x y : ℝ) :
    |roundNearest x + roundNearest y - roundNearest (x + y)| ≤ 1 := by
  have hx := abs_le.mp (abs_sub_roundNearest_le x)
  have hy := abs_le.mp (abs_sub_roundNearest_le y)
  have hxy := abs_le.mp (abs_sub_roundNearest_le (x + y))
  have hlt : |(roundNearest x + roundNearest y - roundNearest (x + y) : ℝ)| < 1 + 1 :=
    abs_lt.mpr ⟨by linarith, by linarith⟩
  rw [← Int.lt_add_one_iff]
  exact_mod_cast hlt

theorem add32_fromFloat (x y : ℝ) :
    add32 (fromFloat x) (fromFloat y) = word (roundNearest (x * 65536) + roundNearest (y * 65536)) :=
  add32_word _ _

/-- Settles O13: the two words are those of integers at most one apart. -/
theorem fromFloatOfSum : Obligations.FromFloatOfSum := by
  intro x y
  have hsum : x * 65536 + y * 65536 = (x + y) * 65536 := (add_mul x y 65536).symm
  have hnear := abs_roundNearest_add_sub_le (x * 65536) (y * 65536)
  rw [hsum] at hnear
  have ⟨hlo, hhi⟩ := abs_le.mp hnear
  refine ⟨hnear, ?_, fun m n hm hn => ?_⟩
  · have hone : (1#32 : Word) = word 1 := rfl
    rw [add32_fromFloat, fromFloat, hone, add32_word, sub32_word]
    obtain h | h | h :
      roundNearest (x * 65536) + roundNearest (y * 65536) = roundNearest ((x + y) * 65536) ∨
      roundNearest (x * 65536) + roundNearest (y * 65536) = roundNearest ((x + y) * 65536) + 1 ∨
      roundNearest (x * 65536) + roundNearest (y * 65536) = roundNearest ((x + y) * 65536) - 1 := by omega
    · exact .inl (congrArg word h)
    · exact .inr (.inl (congrArg word h))
    · exact .inr (.inr (congrArg word h))
  · have hmn : (x + y) * 65536 = (m + n : ℤ) := by rw [← hsum, hm, hn, Int.cast_add]
    rw [fromFloat_eq_word hm, fromFloat_eq_word hn, fromFloat_eq_word hmn, add32_word]

end Sys2Proof.Machine

/-! ## The wrapping functions and their laws (R80, R81, R82, R90) -/

namespace Sys2Proof.Machine

theorem add32_eq_word_toInt (a b : Word) : add32 a b = word (a.toInt + b.toInt) := by
  rw [← add32_word, word_toInt, word_toInt]

theorem sub32_eq_word_toInt (a b : Word) : sub32 a b = word (a.toInt - b.toInt) := by
  rw [← sub32_word, word_toInt, word_toInt]

theorem sub32_eq_add32_neg32 (a b : Word) : sub32 a b = add32 a (neg32 b) := by
  rw [sub32_eq, add32_eq, neg32_eq, BitVec.sub_eq_add_neg]

/-- Settles O1. -/
theorem wrappingFunctions : Obligations.WrappingFunctions := fun a b =>
  ⟨rfl, add32_eq_word_toInt a b, rfl, sub32_eq_word_toInt a b, sub32_eq_add32_neg32 a b, rfl,
    (word_two_pow_sub _).symm, by decide, by decide⟩

theorem add32_comm (a b : Word) : add32 a b = add32 b a := by
  rw [add32_eq, add32_eq, BitVec.add_comm]

theorem add32_assoc (a b c : Word) : add32 (add32 a b) c = add32 a (add32 b c) := by
  simp only [add32_eq, BitVec.add_assoc]

theorem add32_zero (a : Word) : add32 a 0#32 = a := by
  rw [add32_eq, BitVec.add_zero]

theorem add32_neg32_self (a : Word) : add32 a (neg32 a) = 0#32 := by
  rw [add32_eq, neg32_eq, BitVec.add_right_neg]

theorem add32_sub32_cancel (a b : Word) : add32 (sub32 a b) b = a := by
  rw [add32_eq, sub32_eq, BitVec.sub_add_cancel]

theorem toNat_add32 (a b : Word) : (add32 a b).toNat = (a.toNat + b.toNat) % 2 ^ 32 := by
  rw [add32_eq, BitVec.toNat_add]

theorem neg32_neg32 (a : Word) : neg32 (neg32 a) = a := by
  rw [neg32_eq, neg32_eq, BitVec.neg_neg]

/-- Settles O2. -/
theorem additionLaws : Obligations.AdditionLaws := by
  refine ⟨fun a b c => ⟨add32_comm a b, add32_assoc a b c, add32_zero a, add32_neg32_self a,
    sub32_eq_add32_neg32 a b, add32_sub32_cancel a b, toNat_add32 a b⟩, by decide, ?_, ?_, by decide⟩
  · exact fromFloat_eq_word (n := 0x75300000) (by norm_num)
  · exact fromFloat_eq_word (n := 0xEA600000) (by norm_num)

end Sys2Proof.Machine

/-! ## The ALU commands that complete (R85 to R88) -/

namespace Sys2Proof.Machine

/-- The instruction and the command that spells it complete with result `r` and change the response port
alone (R61). -/
def CompletesWith (i : Instr) (c : Command) (r : Word) (s : State) : Prop :=
  exec i s = .next { s with response := some ⟨0x0#4, some r⟩ } ∧
    issue c s = .next { s with response := some ⟨0x0#4, some r⟩ }

/-- An instruction that responds `r` on a running block completes with `r` (R18, R61). -/
theorem completesWith_of_exec {i : Instr} {c : Command} {r : Word} {s : State} (hs : s.status = 0x0#4)
    (hd : decode c = .ok i) (hx : exec i s = whenRunning s (.next (s.respond r))) :
    CompletesWith i c r s := by
  have hrespond : s.respond r = s.setResponse (some ⟨0x0#4, some r⟩) := by
    rw [State.respond, hs]
  rw [whenRunning_running (faulted_of_status_zero hs), hrespond] at hx
  exact ⟨hx, (issue_of_decode hd s).trans hx⟩

/-- Settles O3. -/
theorem addCompletes : Obligations.AddCompletes := by
  refine ⟨fun a b s hs => completesWith_of_exec hs (decode_encode (.add a b)) rfl,
    fun a => ⟨add32_zero a, ?_⟩, by decide⟩
  rw [add32, Int.two_mul]

/-- Settles O4. -/
theorem subCompletes : Obligations.SubCompletes := by
  refine ⟨fun a b s hs => completesWith_of_exec hs (decode_encode (.sub a b)) rfl,
    fun a => ⟨?_, ?_⟩, by decide⟩
  · rw [sub32_eq, BitVec.sub_self]
  · rw [sub32_eq, neg32_eq, BitVec.zero_sub]

/-- Settles O5: the result names `a` alone. -/
theorem negCompletes : Obligations.NegCompletes :=
  ⟨fun a b _ hs => completesWith_of_exec hs (decode_encode (.neg a b)) rfl, neg32_neg32, by decide⟩

/-- Settles O6: below the threshold MUL does not raise, and responds the closed form of R91. -/
theorem mulCompletes : Obligations.MulCompletes := fun a b s hs hlt =>
  completesWith_of_exec hs (decode_encode (.mul a b)) (by simp only [exec, execMul, mul32_eq_some_tdiv hlt])

end Sys2Proof.Machine

/-! ## Integers, words and the ROM index (spec/00_scope.md section 5.1, R84, R103) -/

namespace Sys2Proof.Machine

theorem toNat_word (n : Int) : ((word n).toNat : Int) = n % 2 ^ 32 := by
  rw [word, BitVec.toNat_ofInt]
  omega

/-- Integers are read modulo `2^32`. -/
theorem word_eq_word_iff {m n : Int} : word m = word n ↔ m % 2 ^ 32 = n % 2 ^ 32 := by
  rw [← BitVec.toNat_inj, ← Int.ofNat_inj, toNat_word, toNat_word]

@[simp] theorem word_toNat (a : Word) : word a.toNat = a := by
  rw [word_natCast, BitVec.ofNat_toNat, BitVec.setWidth_eq]

/-- The ROM index in integers: the fraction of the phase without its last four bits (R103). -/
theorem romIndex_eq (p : Word) : romIndex p = p.toNat % 2 ^ 16 / 2 ^ 4 := by
  have hmask : (0xFFFF#32 : Word).toNat = 2 ^ 16 - 1 := by decide
  rw [romIndex, BitVec.toNat_ushiftRight, BitVec.toNat_and, hmask, Nat.and_two_pow_sub_one_eq_mod,
    Nat.shiftRight_eq_div_pow, Config.indexShift]

/-- The ROM index is `p[15:4]` (R103). -/
theorem romIndex_eq_extractLsb' (p : Word) : romIndex p = (p.extractLsb' 4 12).toNat := by
  rw [romIndex_eq, BitVec.extractLsb'_toNat, Nat.shiftRight_eq_div_pow]
  omega

/-- Settles O17. -/
theorem romIndexIsPhaseFraction : Obligations.RomIndexIsPhaseFraction := fun p =>
  ⟨romIndex_eq_extractLsb' p, romIndex_eq p, romIndex_lt p, fun q hq => by
    rw [romIndex_eq_extractLsb', romIndex_eq_extractLsb', hq]⟩

/-- The step of a block of 1024 samples, in integers (R84, R100). -/
theorem toNat_asr32_ten (d : Word) : ((asr32 d 10).toNat : Int) = d.toInt / 1024 % 2 ^ 32 :=
  toNat_word _

/-- A difference of less than 1024 LSB upward gives no step (R100). -/
theorem asr32_ten_eq_zero {d : Word} (hlo : 0 ≤ d.toInt) (hhi : d.toInt < 1024) : asr32 d 10 = 0#32 := by
  have hfloor : d.toInt / 2 ^ 10 = 0 := by omega
  rw [asr32, hfloor]
  rfl

/-- A difference of at most 1024 LSB downward gives the step of one LSB down (R100). -/
theorem asr32_ten_eq_neg_one {d : Word} (hlo : -1024 ≤ d.toInt) (hhi : d.toInt < 0) :
    asr32 d 10 = 0xFFFFFFFF#32 := by
  have hfloor : d.toInt / 2 ^ 10 = -1 := by omega
  rw [asr32, hfloor]
  rfl

/-- The arithmetic shift keeps a negative word negative (R84). -/
theorem toInt_asr32_neg {b : Word} (h : b.getLsbD 31 = true) : (asr32 b 10).toInt < 0 := by
  have hsign : (asr32 b 10).msb = true := by
    rw [BitVec.msb_eq_getLsbD_last, getLsbD_asr32_of_ge (by decide) (by decide), h]
  simpa [BitVec.msb_eq_toInt] using hsign

/-- 1024 steps add up to the difference without its low 10 bits: the shift clears them, and the copies of the
sign fall off the top (R107). -/
theorem word_block_asr32 (d : Word) :
    word (1024 * (asr32 d 10).toNat) = word (d.toNat - (d.toNat % 1024 : Nat)) := by
  have hstep := toNat_asr32_ten d
  have hsigned := BitVec.toInt_eq_toNat_cond d
  rw [word_eq_word_iff]
  split at hsigned <;> omega

/-- The low half of the phase step is bits 25:10 of the frequency word (R109). -/
theorem toNat_asr32_ten_mod (f : Word) :
    (asr32 f 10).toNat % 2 ^ 16 = (f.extractLsb' 10 16).toNat := by
  have hstep := toNat_asr32_ten f
  have hsigned := BitVec.toInt_eq_toNat_cond f
  rw [BitVec.extractLsb'_toNat, Nat.shiftRight_eq_div_pow]
  split at hsigned <;> omega

end Sys2Proof.Machine

/-! ## One sample of ITER (R105) -/

namespace Sys2Proof.Machine

/-- The sample a working amplitude makes of a ROM word (R102, R104). -/
def sampleWord (a : Word) (i : Nat) : Word := word ((a.toInt * (romWord i).toInt).tdiv 65536)

/-- The product of a sample is at most `2^47` in magnitude (R105). -/
theorem sample_product_le (a : Word) (i : Nat) :
    a.toInt.natAbs * (romWord i).toInt.natAbs ≤ 2 ^ 47 := by
  have hrom : (romWord i).toInt.natAbs ≤ 65536 := romWord_toInt i ▸ romValue_natAbs_le i
  calc a.toInt.natAbs * (romWord i).toInt.natAbs
      ≤ 2 ^ 31 * 65536 := Nat.mul_le_mul (toInt_natAbs_le a) hrom
    _ = 2 ^ 47 := by decide

/-- The multiply of a sample answers `sampleWord`. -/
theorem mul32_romWord (a : Word) (i : Nat) : mul32 a (romWord i) = some (sampleWord a i) :=
  mul32_eq_some_tdiv ((sample_product_le a i).trans_lt (by decide))

/-- The product of a sample reaches `2^47` only as the product of the two lowest factors (R105). -/
theorem sample_product_eq_iff (a : Word) (i : Nat) :
    a.toInt * (romWord i).toInt = 2 ^ 47 ↔ a = 0x80000000#32 ∧ romWord i = 0xFFFF0000#32 := by
  have hmin : (0x80000000#32 : Word).toInt = -2 ^ 31 := by decide
  have hneg : (0xFFFF0000#32 : Word).toInt = -2 ^ 16 := by decide
  rw [← BitVec.toInt_inj, ← BitVec.toInt_inj, hmin, hneg]
  refine ⟨fun h => ?_, fun ⟨ha, hr⟩ => by rw [ha, hr]; decide⟩
  have hrom : (romWord i).toInt.natAbs ≤ 2 ^ 16 := romWord_toInt i ▸ romValue_natAbs_le i
  have ha : a.toInt = -2 ^ 31 := by
    by_contra hne
    have hlo := BitVec.le_toInt a
    have hhi := BitVec.toInt_lt (x := a)
    have hsmall : a.toInt.natAbs ≤ 2 ^ 31 - 1 := by omega
    have hprod := Nat.mul_le_mul hsmall hrom
    rw [← Int.natAbs_mul, h] at hprod
    exact absurd hprod (by decide)
  rw [ha] at h
  exact ⟨ha, by omega⟩

/-- A sample is the truncated product but for `-32768.0` times `-1.0`, whose product is one above the signed
range (R105). -/
theorem toInt_sampleWord_iff (a : Word) (i : Nat) :
    (sampleWord a i).toInt = (a.toInt * (romWord i).toInt).tdiv 65536 ↔
      ¬ (a = 0x80000000#32 ∧ romWord i = 0xFFFF0000#32) := by
  have hprod := sample_product_le a i
  rw [← Int.natAbs_mul] at hprod
  rw [← sample_product_eq_iff, sampleWord]
  generalize a.toInt * (romWord i).toInt = p at hprod ⊢
  obtain ⟨hlo, hhi, hmod⟩ := toInt_word_spec (p.tdiv 65536)
  have habs : (p.tdiv 65536).natAbs = p.natAbs / 65536 := Int.natAbs_tdiv _ _
  rcases le_or_gt 0 p with hp | hp
  · have hnonneg := Int.tdiv_nonneg hp (b := 65536) (by decide)
    omega
  · have hnonpos := Int.tdiv_nonneg (Int.neg_nonneg.mpr hp.le) (b := 65536) (by decide)
    rw [Int.neg_tdiv] at hnonpos
    omega

/-- Settles O22. -/
theorem iterCannotFault : Obligations.IterCannotFault := by
  refine ⟨romIndex_lt, fun a i _ => ⟨sample_product_le a i, _, mul32_romWord a i,
    toInt_sampleWord_iff a i, fun h => ?_⟩, samples_never_raise⟩
  rw [sampleWord, (sample_product_eq_iff a i).mpr h]
  decide

end Sys2Proof.Machine

/-! ## The loop of ITER in closed form (R106) -/

namespace Sys2Proof.Machine

/-- Working phase at sample `k`: `word(u(p0) + k*u(dp))` (R106). -/
def phaseAt (c : Channel) (k : Nat) : Word := word (c.phase.toNat + k * c.pstep.toNat)

/-- The sample that channel `c` generates at position `k`, whatever the buffer holds (R104, R111). -/
def sampleAt (c : Channel) (k : Nat) : Word := sampleWord (ampAt c k) (indexAt c k)

theorem mul32_sampleAt (c : Channel) (k : Nat) :
    mul32 (ampAt c k) (romWord (indexAt c k)) = some (sampleAt c k) :=
  mul32_romWord _ _

theorem ampAt_zero (c : Channel) : ampAt c 0 = c.amp := by simp [ampAt]

theorem phaseAt_zero (c : Channel) : phaseAt c 0 = c.phase := by simp [phaseAt]

/-- The next multiple of a step is one addition away. -/
theorem add32_word_mul (x : Int) (k : Nat) (d : Word) :
    add32 (word (x + k * d.toNat)) d = word (x + (k + 1 : Nat) * d.toNat) := by
  have hd : d = word d.toNat := (word_toNat d).symm
  nth_rewrite 2 [hd]
  rw [add32_word, Nat.cast_add, Int.add_mul, Nat.cast_one, Int.one_mul, Int.add_assoc]

theorem ampAt_succ (c : Channel) (k : Nat) : add32 (ampAt c k) c.astep = ampAt c (k + 1) :=
  add32_word_mul _ _ _

theorem phaseAt_succ (c : Channel) (k : Nat) : add32 (phaseAt c k) c.pstep = phaseAt c (k + 1) :=
  add32_word_mul _ _ _

/-- The working phase selects the index of R106: wrapping it modulo `2^32` keeps its low 16 bits. -/
theorem romIndex_phaseAt (c : Channel) (k : Nat) : romIndex (phaseAt c k) = indexAt c k := by
  have hphase : (phaseAt c k).toNat = (c.phase.toNat + k * c.pstep.toNat) % 2 ^ 32 := by
    rw [phaseAt, ← BitVec.toNat_ofNat, ← word_natCast]
    push_cast
    rfl
  rw [romIndex_eq, hphase, indexAt, Nat.mod_mod_of_dvd _ (Nat.pow_dvd_pow 2 (by decide))]

/-- Buffer `m` with the samples of channel `c` mixed into the words below `n`, from word 0 on (R102). -/
def mixBelow (gen : Nat) (c : Channel) (m : Memory) : Nat → Memory
  | 0 => m
  | n + 1 =>
    let m' := mixBelow gen c m n
    bufWrite m' (BitVec.ofNat 10 n) (add32 (bufRead gen m' (BitVec.ofNat 10 n)) (sampleAt c n))

/-- The buffer after a whole block of channel `c` (R102). It is irreducible, so that no unification unrolls
the 1024 samples. -/
@[irreducible] def blockBuffer (gen : Nat) (c : Channel) (m : Memory) : Memory :=
  mixBelow gen c m Config.blockLen

/-- The words below `n` have had their sample added, the others are as before (R106). -/
theorem bufRead_mixBelow (gen : Nat) (c : Channel) (m : Memory) {n : Nat} (hn : n ≤ Config.blockLen)
    (k : BufIndex) :
    bufRead gen (mixBelow gen c m n) k =
      if k.toNat < n then add32 (bufRead gen m k) (sampleAt c k.toNat) else bufRead gen m k := by
  induction n with
  | zero => rfl
  | succ n ih =>
    have hidx : (BitVec.ofNat 10 n).toNat = n := Nat.mod_eq_of_lt hn
    have ih := ih (Nat.le_of_succ_le hn)
    rw [mixBelow, bufRead_bufWrite]
    by_cases hk : BitVec.ofNat 10 n = k
    · subst hk
      rw [if_pos rfl, ih, hidx, if_neg (by omega), if_pos (by omega)]
    · have hne : k.toNat ≠ n := fun h => hk (BitVec.eq_of_toNat_eq (hidx.trans h.symm))
      rw [if_neg hk, ih]
      exact if_congr (by omega) rfl rfl

/-- Every word has had its sample added (R106). -/
theorem bufRead_blockBuffer (gen : Nat) (c : Channel) (m : Memory) (k : BufIndex) :
    bufRead gen (blockBuffer gen c m) k = add32 (bufRead gen m k) (sampleAt c k.toNat) := by
  unfold blockBuffer
  rw [bufRead_mixBelow gen c m (n := Config.blockLen) le_rfl, if_pos (bufIndex_lt k)]

/-- The last of several samples. -/
theorem samples_succ_last {gen : Nat} {da dp : Word} {n : Nat} {w w' : IterWork}
    (h : samples gen da dp n w = .ok w') :
    samples gen da dp (n + 1) w = sampleStep gen da dp w' := by
  induction n generalizing w with
  | zero =>
    cases h
    rw [samples]
    split
    · next e he => exact he.symm
    · next w1 hw1 => exact hw1.symm
  | succ n ih =>
    obtain ⟨w1, hfirst, hrest⟩ := samples_succ h
    rw [samples, hfirst]
    exact ih hrest

/-- What an ITER works on after `n` samples (R106). -/
theorem samples_eq (gen : Nat) (c : Channel) (m : Memory) (n : Nat) :
    samples gen c.astep c.pstep n ⟨c.amp, c.phase, 0#10, m⟩ =
      .ok ⟨ampAt c n, phaseAt c n, BitVec.ofNat 10 n, mixBelow gen c m n⟩ := by
  induction n with
  | zero => rw [samples_zero, ampAt_zero, phaseAt_zero, mixBelow]
  | succ n ih =>
    have hmul : mul32 (ampAt c n) (romWord (romIndex (phaseAt c n))) = some (sampleAt c n) := by
      rw [romIndex_phaseAt, mul32_sampleAt]
    have hlast := sampleStep_ok (gen := gen) (da := c.astep) (dp := c.pstep)
      (w := ⟨ampAt c n, phaseAt c n, BitVec.ofNat 10 n, mixBelow gen c m n⟩) (romIndex_lt _) hmul
    rw [samples_succ_last ih, hlast, ampAt_succ, phaseAt_succ,
      BitVec.ofNat_add, mixBelow]

theorem afterBlock_amp (c : Channel) : (afterBlock c).amp = ampAt c Config.blockLen := rfl

theorem afterBlock_phase (c : Channel) : (afterBlock c).phase = phaseAt c Config.blockLen := rfl

/-- What a whole ITER works on at its end; the sample index has wrapped to 0 (R106). -/
theorem iterBlock_eq (gen : Nat) (c : Channel) (m : Memory) :
    iterBlock gen c m =
      .ok ⟨(afterBlock c).amp, (afterBlock c).phase, 0#10, blockBuffer gen c m⟩ := by
  have hidx : BitVec.ofNat 10 Config.blockLen = 0#10 := by decide
  unfold blockBuffer
  rw [iterBlock, samples_eq, hidx, afterBlock_amp, afterBlock_phase]

/-! ## The states that SET and ITER lead to (R100, R106) -/

/-- The channel with both steps recomputed (R100). -/
def Channel.retarget (c : Channel) (a b : Word) : Channel :=
  { c with astep := asr32 (sub32 a c.amp) 10, pstep := asr32 b 10 }

@[simp] theorem retarget_amp (c : Channel) (a b : Word) : (c.retarget a b).amp = c.amp := rfl
@[simp] theorem retarget_phase (c : Channel) (a b : Word) : (c.retarget a b).phase = c.phase := rfl
@[simp] theorem retarget_astep (c : Channel) (a b : Word) :
    (c.retarget a b).astep = asr32 (sub32 a c.amp) 10 := rfl
@[simp] theorem retarget_pstep (c : Channel) (a b : Word) : (c.retarget a b).pstep = asr32 b 10 := rfl

/-- The state after a SET of channel `ch` with registers `c` (R100). -/
def State.afterSet (s : State) (ch : ChannelNo) (c : Channel) (a b : Word) : State :=
  (s.setChannel ch (c.retarget a b)).respond 0#32

/-- The state after a block of channel `ch` with registers `c` (R106). -/
def State.afterIter (s : State) (ch : ChannelNo) (c : Channel) : State :=
  ((s.setBuf (blockBuffer s.bufGen c s.buf)).setChannel ch (afterBlock c)).respond 0#32

section

variable {s : State} {ch : ChannelNo} {c : Channel}

/-- SET of an existing channel of a running block (R100). -/
theorem exec_set (hs : s.status = 0x0#4) (hc : s.channel? ch = some c) (a b : Word) :
    exec (.set ch a b) s = .next (s.afterSet ch c a b) := by
  simp only [exec, execSet, whenRunning_running (faulted_of_status_zero hs), hc, State.afterSet,
    Channel.retarget, Config.bufBits]

/-- ITER of length 1024 of an existing channel of a running block (R102). -/
theorem exec_iter (hs : s.status = 0x0#4) (hc : s.channel? ch = some c) (b : Word) :
    exec (.iter ch 0x00000400#32 b) s = .next (s.afterIter ch c) := by
  have hlen : lenMatches 0x00000400#32 = true := by decide
  simp only [exec, execIter, whenRunning_running (faulted_of_status_zero hs), hc, hlen, iterBlock_eq, if_true,
    State.afterIter, afterBlock]

@[simp] theorem afterSet_status (a b : Word) : (s.afterSet ch c a b).status = s.status := rfl
@[simp] theorem afterSet_bufWord (a b : Word) (k : BufIndex) :
    (s.afterSet ch c a b).bufWord k = s.bufWord k := rfl
@[simp] theorem afterIter_status : (s.afterIter ch c).status = s.status := rfl
@[simp] theorem afterIter_channels :
    (s.afterIter ch c).channels = s.channels.set ch.toNat (afterBlock c) := rfl

/-- Every buffer word has had its sample added (R106). -/
theorem afterIter_bufWord (k : BufIndex) :
    (s.afterIter ch c).bufWord k = add32 (s.bufWord k) (sampleAt c k.toNat) :=
  bufRead_blockBuffer s.bufGen c s.buf k

theorem afterSet_channel? (hc : s.channel? ch = some c) (a b : Word) :
    (s.afterSet ch c a b).channel? ch = some (c.retarget a b) :=
  setChannel_getElem?_self hc _

theorem afterIter_channel? (hc : s.channel? ch = some c) :
    (s.afterIter ch c).channel? ch = some (afterBlock c) :=
  setChannel_getElem?_self hc _

/-- A block right after a SET uses the registers the SET has left (R101). -/
theorem exec_iter_afterSet (hs : s.status = 0x0#4) (hc : s.channel? ch = some c) (a b ign : Word) :
    exec (.iter ch 0x00000400#32 ign) (s.afterSet ch c a b) =
      .next ((s.afterSet ch c a b).afterIter ch (c.retarget a b)) :=
  exec_iter ((afterSet_status a b).trans hs) (afterSet_channel? hc a b) ign

/-- A block of one channel leaves the registers of the others alone (R14). -/
theorem afterIter_channel?_ne {ch' : ChannelNo} (h : ch ≠ ch') :
    (s.afterIter ch c).channel? ch' = s.channel? ch' :=
  setChannel_getElem?_ne (s.setBuf _) (fun he => h (BitVec.eq_of_toNat_eq he)) _

/-- SET overwrites the steps that stand in the channel, without reading them (R100, R112). -/
theorem afterSet_setChannel (x y a b : Word) :
    (s.setChannel ch { c with astep := x, pstep := y }).afterSet ch { c with astep := x, pstep := y } a b =
      s.afterSet ch c a b :=
  congrArg (fun v => (s.setChannels v).respond 0#32) (List.set_set _)

end

/-- Settles O20. -/
theorem iterCompletes : Obligations.IterCompletes := by
  intro ch b s c hs hc
  refine ⟨s.afterIter ch c, exec_iter hs hc b, hs ▸ rfl, fun k => ?_⟩
  exact ⟨sampleAt c k.toNat, mul32_sampleAt c k.toNat, afterIter_bufWord k⟩

end Sys2Proof.Machine

/-! ## SET (R100, R112) -/

namespace Sys2Proof.Machine

theorem toNat_append_eq_add {m n : Nat} (x : BitVec m) (y : BitVec n) :
    (x ++ y).toNat = x.toNat * 2 ^ n + y.toNat := by
  rw [BitVec.toNat_append, ← Nat.shiftLeft_add_eq_or_of_lt y.isLt, Nat.shiftLeft_eq]

/-- The command word of SET is `0x0000cc08` (R65, R100). -/
theorem commandWord_set (ch : ChannelNo) : commandWord ch 0x8#4 = BitVec.ofNat 32 (ch.toNat * 256 + 8) := by
  apply BitVec.eq_of_toNat_eq
  have := ch.isLt
  simp only [commandWord, toNat_append_eq_add, BitVec.toNat_ofNat]
  omega

/-- A channel that does not exist makes SET an illegal command (R66, R100). -/
theorem exec_set_illegal {s : State} {ch : ChannelNo} (hs : s.status = 0x0#4) (hch : s.nosc ≤ ch.toNat)
    (a b : Word) : exec (.set ch a b) s = .next (s.raise .illegalCommand) :=
  exec_illFormed (faulted_of_status_zero hs) (decide_eq_false (not_lt.mpr hch))

/-- Settles O18. -/
theorem setCompletes : Obligations.SetCompletes := by
  refine ⟨fun ch a b s c hs hc => ⟨s.afterSet ch c a b, hs ▸ rfl, exec_set hs hc a b, ?_, fun a' b' => ?_⟩,
    fun ch a b s hs hch => exec_set_illegal hs hch a b, fun a amp => ⟨?_, ?_, ?_⟩,
    fun b => toInt_asr32_neg, by decide⟩
  · rw [← commandWord_set]
    exact (issue_of_decode (decode_encode (.set ch a b)) s).trans (exec_set hs hc a b)
  · have hsecond := exec_set ((afterSet_status a b).trans hs) (afterSet_channel? hc a b) a' b'
    rw [hsecond, exec_set hs hc]
    exact congrArg Host.Outcome.next (afterSet_setChannel _ _ a' b')
  · rintro rfl
    rw [sub32_eq, BitVec.sub_self]
    decide
  · exact fun ⟨hlo, hhi⟩ => asr32_ten_eq_zero hlo hhi
  · exact fun ⟨hlo, hhi⟩ => asr32_ten_eq_neg_one hlo hhi

/-- Settles O19: the registers SET leaves do not name the old phase step. -/
theorem setFrequencySnaps : Obligations.SetFrequencySnaps := by
  intro ch a b old s c hs hc
  refine ⟨s.afterSet ch c a b, c.retarget a b, exec_set hs hc a b, ?_, afterSet_channel? hc a b, rfl,
    fun m w hw => ?_⟩
  · have hold : (s.setChannel ch { c with pstep := old }).channel? ch = some { c with pstep := old } :=
      setChannel_getElem?_self hc _
    have hset := exec_set ((State.setChannel_status s ch _).trans hs) hold a b
    exact hset.trans (congrArg Host.Outcome.next (afterSet_setChannel c.astep old a b))
  · obtain ⟨smp, -, rfl⟩ := sampleStep_cases hw
    rfl

end Sys2Proof.Machine

/-! ## The amplitude ramp (R107) -/

namespace Sys2Proof.Machine

/-- A block with no amplitude step leaves the amplitude where it is. -/
theorem afterBlock_amp_of_astep_zero {c : Channel} (h : c.astep = 0#32) : (afterBlock c).amp = c.amp := by
  simp [afterBlock, h]

/-- After SET to `target`, a block ends below it by the low 10 bits of the difference (R107). -/
theorem afterBlock_retarget_amp (c : Channel) (target freq : Word) :
    (afterBlock (c.retarget target freq)).amp =
      sub32 target (word ((sub32 target c.amp).toNat % 1024 : Nat)) := by
  have hblock := word_block_asr32 (sub32 target c.amp)
  calc (afterBlock (c.retarget target freq)).amp
      = word (c.amp.toNat + 1024 * (asr32 (sub32 target c.amp) 10).toNat) := rfl
    _ = add32 c.amp (word (1024 * (asr32 (sub32 target c.amp) 10).toNat)) := by
        rw [word_add, word_toNat, add32_eq]
    _ = sub32 target (word ((sub32 target c.amp).toNat % 1024 : Nat)) := by
        rw [hblock, word_sub, word_toNat, add32_eq, sub32_eq, sub32_eq]
        bv_omega

/-- A channel whose distance to the target is less than 1024 LSB gets no step (R107). -/
theorem retarget_astep_eq_zero {c : Channel} {target : Word} {gap : Nat} (hgap : gap ≤ 1023)
    (hd : sub32 target c.amp = word gap) (freq : Word) : (c.retarget target freq).astep = 0#32 := by
  have hsigned : (word gap).toInt = gap := by
    rw [word, BitVec.toInt_ofInt, Int.bmod_eq_of_le] <;> omega
  refine asr32_ten_eq_zero ?_ ?_ <;> rw [hd, hsigned] <;> omega

/-- Over any number of pairs of SET to the same target and a block, a channel that close to it stays where it
is (R107). -/
theorem setAndIterate_stays {ch : ChannelNo} {target ign : Word} {gap : Nat} (hgap : gap ≤ 1023)
    (freqs : List Word) {s : State} {c : Channel} (hs : s.status = 0x0#4) (hc : s.channel? ch = some c)
    (hd : sub32 target c.amp = word gap) :
    ∃ s' c', setAndIterate ch target ign freqs s = .next s' ∧ s'.channel? ch = some c' ∧
      c'.amp = c.amp ∧ c'.astep = if freqs = [] then c.astep else 0#32 := by
  induction freqs generalizing s c with
  | nil => exact ⟨s, c, rfl, hc, rfl, rfl⟩
  | cons freq rest ih =>
    have hiter := afterIter_channel? (afterSet_channel? hc target freq)
    have hstep : (c.retarget target freq).astep = 0#32 := retarget_astep_eq_zero hgap hd freq
    have hamp : (afterBlock (c.retarget target freq)).amp = c.amp := afterBlock_amp_of_astep_zero hstep
    obtain ⟨s', c', hrun, hc', hamp', hstep'⟩ :=
      ih (s := (s.afterSet ch c target freq).afterIter ch (c.retarget target freq)) hs
        hiter (by rw [hamp, hd])
    refine ⟨s', c', ?_, hc', hamp'.trans hamp, ?_⟩
    · rw [setAndIterate, exec_set hs hc]
      simp only [exec_iter_afterSet hs hc, hrun]
    · rw [hstep', if_neg (List.cons_ne_nil freq rest)]
      exact ite_eq_right_iff.mpr fun _ => hstep

/-- Settles O23: the first pair of SET and a block leaves the gap, and every further pair keeps it. -/
theorem rampLaw : Obligations.RampLaw := by
  rintro ch target freq ign s c gap hs hc rfl
  have hgap : (sub32 target c.amp).toNat % 1024 ≤ 1023 := by omega
  have hiter := afterIter_channel? (afterSet_channel? hc target freq)
  have hamp := afterBlock_retarget_amp c target freq
  have hd : sub32 target (afterBlock (c.retarget target freq)).amp =
      word ((sub32 target c.amp).toNat % 1024 : Nat) := by
    rw [hamp, sub32_eq, sub32_eq, sub_sub_cancel]
  refine ⟨s.afterSet ch c target freq, _, _, exec_set hs hc _ _,
    exec_iter_afterSet hs hc _ _ ign, hiter, rfl, word_block_asr32 _, hamp,
    fun hzero => ?_, hgap, hd, fun freqs => ?_⟩
  · rw [hamp, hzero, sub32_eq]
    exact BitVec.sub_zero _
  · obtain ⟨s', c', hrun, hc', hamp', hstep'⟩ := setAndIterate_stays (ign := ign) hgap freqs
      (s := (s.afterSet ch c target freq).afterIter ch (c.retarget target freq)) hs hiter hd
    exact ⟨s', c', hrun, hc', hamp', fun hne => hstep'.trans (if_neg hne)⟩

end Sys2Proof.Machine

/-! ## What ITER adds to the buffer (R109, R110, R111) -/

namespace Sys2Proof.Machine

/-- With both steps zero a block leaves the registers alone (R110). -/
theorem afterBlock_of_steps_zero {c : Channel} (ha : c.astep = 0#32) (hp : c.pstep = 0#32) :
    afterBlock c = c := by
  obtain ⟨amp, phase, astep, pstep⟩ := c
  obtain rfl : astep = 0#32 := ha
  obtain rfl : pstep = 0#32 := hp
  simp [afterBlock]

/-- With both steps zero every sample is that of the registers as they stand (R110). -/
theorem sampleAt_of_steps_zero {c : Channel} (ha : c.astep = 0#32) (hp : c.pstep = 0#32) (k : Nat) :
    sampleAt c k = sampleWord c.amp (c.phase.extractLsb' 4 12).toNat := by
  rw [← romIndex_eq_extractLsb', sampleAt, ← romIndex_phaseAt]
  simp [ampAt, phaseAt, ha, hp]

/-- At amplitude 1.0 the sample is the ROM word (R91, R110). -/
theorem sampleWord_one (i : Nat) : sampleWord 0x00010000#32 i = romWord i := by
  have hone : mul32 0x00010000#32 (romWord i) = some (romWord i) := (mul32_comm _ _).trans (mul32_one _)
  exact Option.some.inj ((mul32_romWord _ i).symm.trans hone)

/-- Settles O24. -/
theorem constantOutput : Obligations.ConstantOutput := by
  intro ch b s c hs hc ha hp
  refine ⟨s.afterIter ch c, _, mul32_romWord _ _, exec_iter hs hc b, ?_, fun k => ?_, fun hone => ?_⟩
  · obtain ⟨_, hget⟩ := List.getElem?_eq_some_iff.mp hc
    rw [afterIter_channels, afterBlock_of_steps_zero ha hp, ← hget, List.set_getElem_self]
  · rw [afterIter_bufWord, sampleAt_of_steps_zero ha hp]
  · rw [hone, sampleWord_one]

/-- On an all-zero buffer a block leaves the samples themselves (R111). -/
theorem afterIter_bufWord_of_zero {s : State} {ch : ChannelNo} {c : Channel} {k : BufIndex}
    (h : s.bufWord k = 0#32) : (s.afterIter ch c).bufWord k = sampleAt c k.toNat := by
  rw [afterIter_bufWord, h, add32_comm, add32_zero]

/-- Settles O25: each channel adds its own samples, which name neither the buffer nor the other channel. -/
theorem additiveMixing : Obligations.AdditiveMixing := by
  intro ch1 ch2 b1 b2 s hs hne hch1 hch2
  obtain ⟨c1, hc1⟩ := exists_channel? hch1
  obtain ⟨c2, hc2⟩ := exists_channel? hch2
  have hc2' : (s.afterIter ch1 c1).channel? ch2 = some c2 := (afterIter_channel?_ne hne).trans hc2
  have hc1' : (s.afterIter ch2 c2).channel? ch1 = some c1 := (afterIter_channel?_ne hne.symm).trans hc1
  have hs1 : (s.afterIter ch1 c1).status = 0x0#4 := by rw [afterIter_status, hs]
  have hs2 : (s.afterIter ch2 c2).status = 0x0#4 := by rw [afterIter_status, hs]
  refine ⟨_, _, _, _, exec_iter hs hc1 b1, exec_iter hs1 hc2' b2, exec_iter hs hc2 b2,
    exec_iter hs2 hc1' b1, ?_, fun k => ?_, fun z hz => ?_⟩
  · simp only [afterIter_channels]
    exact List.set_comm _ _ fun he => hne (BitVec.eq_of_toNat_eq he)
  · simp only [afterIter_bufWord]
    rw [add32_assoc, add32_comm (sampleAt c1 k.toNat), ← add32_assoc]
  · refine ⟨_, _, exec_iter (s := s.setBuf z) hs hc1 b1, exec_iter (s := s.setBuf z) hs hc2 b2,
      fun k => ?_⟩
    have hzero : (s.setBuf z).bufWord k = 0#32 := hz k
    rw [afterIter_bufWord_of_zero hzero, afterIter_bufWord_of_zero hzero, afterIter_bufWord,
      afterIter_bufWord]

/-- Only the low 16 bits of the phase step reach the ROM index (R106, R109). -/
theorem indexAt_congr {c c' : Channel} (hphase : c.phase = c'.phase)
    (hstep : c.pstep.toNat % 2 ^ 16 = c'.pstep.toNat % 2 ^ 16) (k : Nat) : indexAt c k = indexAt c' k := by
  have hmod : c'.phase.toNat + k * c.pstep.toNat ≡ c'.phase.toNat + k * c'.pstep.toNat [MOD 2 ^ 16] :=
    Nat.ModEq.add_left _ (Nat.ModEq.mul_left k hstep)
  rw [indexAt, indexAt, hphase, hmod]

/-- Frequency words that agree in bits 25:10 generate the same samples (R109). -/
theorem sampleAt_retarget_congr (c : Channel) (a : Word) {f f' : Word}
    (h : f.extractLsb' 10 16 = f'.extractLsb' 10 16) (k : Nat) :
    sampleAt (c.retarget a f) k = sampleAt (c.retarget a f') k := by
  have hstep : (c.retarget a f).pstep.toNat % 2 ^ 16 = (c.retarget a f').pstep.toNat % 2 ^ 16 := by
    rw [retarget_pstep, retarget_pstep, toNat_asr32_ten_mod, toNat_asr32_ten_mod, h]
  have hindex := indexAt_congr ((retarget_phase c a f).trans (retarget_phase c a f').symm) hstep k
  have hamp : ampAt (c.retarget a f) k = ampAt (c.retarget a f') k := by
    simp only [ampAt, retarget_amp, retarget_astep]
  rw [sampleAt, sampleAt, hindex, hamp]

/-- Settles O26. -/
theorem frequencyBitsThatMatter : Obligations.FrequencyBitsThatMatter := by
  intro ch a f f' b s hs hch hbits
  obtain ⟨c, hc⟩ := exists_channel? hch
  refine ⟨_, _, _, _, exec_set hs hc a f,
    exec_iter_afterSet hs hc a f b, exec_set hs hc a f',
    exec_iter_afterSet hs hc a f' b, fun k => ?_⟩
  simp only [afterIter_bufWord, afterSet_bufWord, sampleAt_retarget_congr c a hbits]

end Sys2Proof.Machine

/-! ## The buffer and the rest of the state (R104, R111) -/

namespace Sys2Proof.Machine

/-- The state with another buffer attached. -/
def State.withBuffer (m : Memory) (g : Nat) (s : State) : State := (s.setBuf m).setBufGen g

/-- When the first answers a next state, so does the second, with the same registers, `STATUS` and
response. -/
def AnswersAlike (r r' : Result) : Prop :=
  ∀ t, r = .next t → ∃ t', r' = .next t' ∧ t'.channels = t.channels ∧ t'.status = t.status ∧
    t'.response = t.response

theorem answersAlike_next {t t' : State} (hch : t'.channels = t.channels) (hst : t'.status = t.status)
    (hresp : t'.response = t.response) : AnswersAlike (.next t) (.next t') := by
  rintro _ ⟨⟩
  exact ⟨t', rfl, hch, hst, hresp⟩

section

variable {m : Memory} {g : Nat} {s : State}

@[simp] theorem withBuffer_channels : (s.withBuffer m g).channels = s.channels := rfl
@[simp] theorem withBuffer_status : (s.withBuffer m g).status = s.status := rfl

theorem respond_withBuffer (r : Word) :
    AnswersAlike (.next (s.respond r)) (.next ((s.withBuffer m g).respond r)) :=
  answersAlike_next rfl rfl rfl

theorem raise_withBuffer (e : FaultCause) :
    AnswersAlike (.next (s.raise e)) (.next ((s.withBuffer m g).raise e)) :=
  answersAlike_next rfl rfl rfl

/-- Whether a block answers or runs does not depend on the buffer (R125). -/
theorem whenRunning_withBuffer {run run' : Result} (h : AnswersAlike run run') :
    AnswersAlike (whenRunning s run) (whenRunning (s.withBuffer m g) run') := by
  unfold whenRunning
  have hf : (s.withBuffer m g).faulted = s.faulted := rfl
  rw [hf]
  split
  · exact answersAlike_next rfl rfl rfl
  · exact h

theorem execMul_withBuffer (a b : Word) :
    AnswersAlike (execMul a b s) (execMul a b (s.withBuffer m g)) := by
  refine whenRunning_withBuffer ?_
  cases mul32 a b with
  | none => exact raise_withBuffer _
  | some r => exact respond_withBuffer r

theorem execSet_withBuffer (ch : ChannelNo) (a b : Word) :
    AnswersAlike (execSet ch a b s) (execSet ch a b (s.withBuffer m g)) := by
  refine whenRunning_withBuffer ?_
  have hch : (s.withBuffer m g).channel? ch = s.channel? ch := rfl
  rw [hch]
  cases s.channel? ch with
  | none => exact raise_withBuffer _
  | some c => exact answersAlike_next rfl rfl rfl

/-- The loop of ITER ends with registers that do not name the buffer (R106). -/
theorem execIter_withBuffer (ch : ChannelNo) (len b : Word) :
    AnswersAlike (execIter ch len b s) (execIter ch len b (s.withBuffer m g)) := by
  refine whenRunning_withBuffer ?_
  have hch : (s.withBuffer m g).channel? ch = s.channel? ch := rfl
  rw [hch]
  cases s.channel? ch with
  | none => exact raise_withBuffer _
  | some c =>
    simp only [iterBlock_eq]
    split
    · exact answersAlike_next (by simp) (by simp) (by simp)
    · exact raise_withBuffer _

/-- Every instruction answers alike on any two buffers. -/
theorem exec_withBuffer (i : Instr) : AnswersAlike (exec i s) (exec i (s.withBuffer m g)) := by
  cases i with
  | add a b => exact whenRunning_withBuffer (respond_withBuffer _)
  | sub a b => exact whenRunning_withBuffer (respond_withBuffer _)
  | neg a b => exact whenRunning_withBuffer (respond_withBuffer _)
  | mul a b => exact execMul_withBuffer a b
  | set ch a b => exact execSet_withBuffer ch a b
  | iter ch len b => exact execIter_withBuffer ch len b

end

/-- Settles O27. -/
theorem bufferNeverFeedsBack : Obligations.BufferNeverFeedsBack := fun i s t m g h =>
  exec_withBuffer (s := s) (m := m) (g := g) i t h

end Sys2Proof.Machine

/-! ## Fault entry (R121, R122, R124) -/

namespace Sys2Proof.Machine

/-- A MUL out of range raises MulRange (R122). -/
theorem exec_mul_raises {s : State} {a b : Word} (hf : s.faulted = false) (hm : mul32 a b = none) :
    exec (.mul a b) s = .next (s.raise .mulRange) := by
  simp only [exec, execMul, whenRunning_running hf, hm]

/-- Settles O7. -/
theorem mulRangeFaults : Obligations.MulRangeFaults := by
  intro a b s hs hrange
  have hm : mul32 a b = none := by
    rw [mul32_eq_none_iff_natAbs]
    omega
  exact exec_mul_raises (faulted_of_status_zero hs) hm

/-- An ITER of an existing channel with a length other than 1024 raises SizeMismatch (R121). -/
theorem exec_iter_sizeMismatch {s : State} {ch : ChannelNo} {len : Word} (hf : s.faulted = false)
    (hch : ch.toNat < s.nosc) (hlen : len.toNat ≠ 1024) (b : Word) :
    exec (.iter ch len b) s = .next (s.raise .sizeMismatch) := by
  obtain ⟨c, hc⟩ := exists_channel? hch
  have hmiss : ¬ lenMatches len = true := lenMatches_iff.not.mpr hlen
  simp only [exec, execIter, whenRunning_running hf, hc, if_neg hmiss]

/-- Settles O21. -/
theorem iterSizeMismatch : Obligations.IterSizeMismatch := fun _ _ b _ hs hch hlen =>
  exec_iter_sizeMismatch (faulted_of_status_zero hs) hch hlen b

/-- A command to a running block completes, or raises one of the three causes it can (R120, R128). -/
theorem issue_completes_or_raises {s : State} (hf : s.faulted = false) (c : Command) :
    ∃ t, issue c s = .next t ∧
      ((∃ i, Completed i s t) ∨
        ∃ f ∈ [FaultCause.sizeMismatch, .mulRange, .illegalCommand], t = s.raise f) := by
  by_cases hill : specIllegal s.nosc c.cmd
  · exact ⟨_, issue_of_specIllegal hf hill, .inr ⟨.illegalCommand, by simp, rfl⟩⟩
  · obtain ⟨i, hd, hwf⟩ := decode_of_not_specIllegal hill
    obtain ⟨t, ht, hdone | ⟨f, hmem, hraise⟩⟩ := exec_wellFormed hf hwf
    · exact ⟨t, (issue_of_decode hd s).trans ht, .inl ⟨i, hdone⟩⟩
    · refine ⟨t, (issue_of_decode hd s).trans ht, .inr ⟨f, ?_, hraise⟩⟩
      simp only [List.mem_cons, List.not_mem_nil, or_false] at hmem ⊢
      tauto

/-- `STATUS` after a fault is `0x8 + c` (R124). -/
theorem FaultCause.toNat_status (f : FaultCause) : f.status.toNat = 8 + f.code.toNat := by
  cases f <;> rfl

/-- `STATUS.CAUSE` after a fault is its code (R18, R124). -/
theorem raise_cause (s : State) (f : FaultCause) : (s.raise f).cause = f.code :=
  BitVec.extractLsb'_append_eq_right

/-- Settles O29: a command that completes keeps `STATUS`, and a raise is the fault entry. -/
theorem faultEntryIsPrecise : Obligations.FaultEntryIsPrecise := by
  intro c s t hs h hne
  obtain ⟨t', ht', hout⟩ := issue_completes_or_raises (faulted_of_status_zero hs) c
  cases ht'.symm.trans h
  obtain ⟨i, hkept, -⟩ | ⟨f, hmem, rfl⟩ := hout
  · exact absurd (hkept.trans hs) hne
  · exact ⟨f, hmem, rfl, f.toNat_status, raise_cause s f, State.raise_faulted s f⟩

end Sys2Proof.Machine

/-! ## The faulted state (R125, R126, R128) -/

namespace Sys2Proof.Machine

/-- Settles O30. -/
theorem faultedBlockOnlyAnswers : Obligations.FaultedBlockOnlyAnswers :=
  fun c _ hf => issue_faulted hf c

/-- A channel that does not exist makes ITER an illegal command, whatever its length (R66, R128). -/
theorem exec_iter_illegal {s : State} {ch : ChannelNo} (hf : s.faulted = false) (hch : s.nosc ≤ ch.toNat)
    (len b : Word) : exec (.iter ch len b) s = .next (s.raise .illegalCommand) :=
  exec_illFormed hf (decide_eq_false (not_lt.mpr hch))

/-- Settles O33: each clause is the meaning of ITER at one priority. -/
theorem faultPriority : Obligations.FaultPriority := fun ch len b _ =>
  ⟨fun hf => exec_faulted hf (.iter ch len b),
    fun hs hch => exec_iter_illegal (faulted_of_status_zero hs) hch len b,
    fun hs hch hlen => exec_iter_sizeMismatch (faulted_of_status_zero hs) hch hlen b⟩

/-- `STATUS` and every register are as before. -/
def State.SameRegisters (s t : State) : Prop := t.status = s.status ∧ t.channels = s.channels

/-- `STATUS` and every register have their reset values (R22, R23). -/
def State.ResetFrom (s t : State) : Prop :=
  t.status = 0x0#4 ∧ t.channels = List.replicate s.nosc Channel.zero

/-- A faulted block takes every host action, and keeps `STATUS` and the registers over each but a reset
(R125, R126). -/
theorem takeInput_faulted {s : State} (hf : s.faulted = true) (x : Input) :
    ∃ t, takeInput x s = .next t ∧ t.inputs = s.inputs ∧
      (s.SameRegisters t ∨ x.resets ∧ s.ResetFrom t) := by
  cases x with
  | command c => exact ⟨s.answerFaulted, issue_faulted hf c, rfl, .inl ⟨rfl, rfl⟩⟩
  | reset => exact ⟨s.applyReset, rfl, rfl, .inr ⟨trivial, rfl, applyReset_channels_eq s⟩⟩
  | resetDuring c =>
    refine ⟨s.applyResetDuring s.answerFaulted, ?_, rfl, .inr ⟨trivial, rfl, applyReset_channels_eq s⟩⟩
    simp only [takeInput, issue_faulted hf c]
  | attach => exact ⟨s.attachBuffer, rfl, rfl, .inl ⟨rfl, rfl⟩⟩
  | fill i v => exact ⟨s.fillWord i v, rfl, rfl, .inl ⟨rfl, rfl⟩⟩

/-- A step with no host action waiting is idle (log entry 11). -/
theorem step_of_inputs_nil {s : State} (h : s.inputs = []) : step s = .next s := by
  simp only [step, h]

/-- Every step of a faulted block takes the next host action, if any, and keeps `STATUS` and the
registers unless that action is a reset (R126). -/
theorem step_faulted {s : State} (hf : s.faulted = true) :
    ∃ t, step s = .next t ∧ t.inputs = s.inputs.tail ∧
      (s.SameRegisters t ∨ ∃ x rest, s.inputs = x :: rest ∧ x.resets ∧ s.ResetFrom t) := by
  cases hin : s.inputs with
  | nil => exact ⟨s, step_of_inputs_nil hin, hin, .inl ⟨rfl, rfl⟩⟩
  | cons x rest =>
    obtain ⟨t, ht, hrest, hout⟩ := takeInput_faulted (s := s.setInputs rest) hf x
    exact ⟨t, (step_of_inputs_cons hin).trans ht, hrest,
      hout.imp id fun hreset => ⟨x, rest, rfl, hreset⟩⟩

/-- Settles O31. -/
theorem onlyResetClearsFault : Obligations.OnlyResetClearsFault := by
  intro s t hf h
  obtain ⟨t', ht', -, hout⟩ := step_faulted hf
  cases ht'.symm.trans h
  exact hout

/-- A run begins with a step and goes on from where it leads. -/
theorem run_succ_of_step {s t : State} (h : step s = .next t) (k : Nat) :
    core.run (k + 1) s = core.run k t := by
  have hcore : core.step s = .next t := h
  simp only [Host.Core.run, hcore]

theorem mem_take_succ_of_mem_take_tail {x : Input} {l : List Input} {k : Nat} (h : x ∈ l.tail.take k) :
    x ∈ l.take (k + 1) := by
  cases l with
  | nil => simp at h
  | cons y rest => exact List.mem_cons_of_mem y h

/-- Settles O32, by induction on the number of steps: each keeps the fault, so the next is a faulted
block's too. -/
theorem faultLastsUntilReset : Obligations.FaultLastsUntilReset := by
  intro k
  induction k with
  | zero => exact fun s _ _ => ⟨s, rfl, rfl, rfl⟩
  | succ k ih =>
    intro s hf hno
    obtain ⟨t, hstep, hrest, ⟨hstatus, hchannels⟩ | ⟨x, rest, hin, hx, -⟩⟩ := step_faulted hf
    · have hno' : ∀ x ∈ t.inputs.take k, ¬ x.resets := fun x hx =>
        hno x (mem_take_succ_of_mem_take_tail (hrest ▸ hx))
      obtain ⟨u, hrun, hstatus', hchannels'⟩ := ih t ((State.faulted_congr hstatus).trans hf) hno'
      exact ⟨u, (run_succ_of_step hstep k).trans hrun, hstatus'.trans hstatus,
        hchannels'.trans hchannels⟩
    · exact absurd hx (hno x (by simp [hin]))

end Sys2Proof.Machine

/-! ## The reset input, and reset during a command (R150, R151, R159) -/

namespace Sys2Proof.Machine

/-- Reset as one update of the state: registers, `STATUS` and the response port, and nothing else (R22,
R23, R25). -/
theorem applyReset_eq (s : State) :
    s.applyReset = { s with
      channels := List.replicate s.nosc Channel.zero
      status := 0x0#4
      response := none } := by
  rw [← applyReset_channels_eq]
  rfl

/-- A reset during a command is a reset, but for the buffer and the model's own count (R151). -/
theorem applyResetDuring_eq (s done : State) :
    s.applyResetDuring done = { s with
      channels := List.replicate s.nosc Channel.zero
      status := 0x0#4
      response := none
      buf := (s.applyResetDuring done).buf
      resetGen := (s.applyResetDuring done).resetGen } := by
  rw [← applyReset_channels_eq]
  rfl

/-- Each word a reset during a command leaves is the old one or the command's: a word the command's buffer
lists reads as listed, whichever buffer that is, and every other is not touched (R151). -/
theorem applyResetDuring_bufWord_old_or_done (s done : State) (k : BufIndex) :
    (s.applyResetDuring done).bufWord k = s.bufWord k ∨
      (s.applyResetDuring done).bufWord k = done.bufWord k := by
  simp only [State.bufWord, bufRead, State.applyResetDuring_buf, State.applyResetDuring_bufGen]
  obtain hold | ⟨-, v, hnew, hcut⟩ :=
    cutOffBuffer_read? s.resetGen s.buf done.buf Config.blockLen k.toNat
  · exact .inl (by rw [hold])
  · exact .inr (by rw [hcut, hnew, Option.getD_some, Option.getD_some])

/-- A reset that arrives during a command cuts off what issuing that command would have led to (R151). -/
theorem takeInput_resetDuring {s done : State} {c : Command} (h : issue c s = .next done) :
    takeInput (.resetDuring c) s = .next (s.applyResetDuring done) := by
  simp only [takeInput, h]

/-- Settles O40: `done` is what issuing the command answers. -/
theorem resetDuringCommand : Obligations.ResetDuringCommand := by
  intro s c rest hin
  obtain ⟨done, hdone, -⟩ := issue_answers c (s.setInputs rest)
  exact ⟨(s.setInputs rest).applyResetDuring done, done,
    (step_of_inputs_cons hin).trans (takeInput_resetDuring hdone), hdone,
    applyResetDuring_eq (s.setInputs rest) done,
    applyResetDuring_bufWord_old_or_done (s.setInputs rest) done⟩

/-- Every host action is taken, in every state: a command, cut off or not, because issuing it answers
(R159). -/
theorem takeInput_answers (x : Input) (s : State) : ∃ t, takeInput x s = .next t := by
  cases x with
  | command c =>
    obtain ⟨t, ht, -⟩ := issue_answers c s
    exact ⟨t, ht⟩
  | reset => exact ⟨s.applyReset, rfl⟩
  | resetDuring c =>
    obtain ⟨done, hdone, -⟩ := issue_answers c s
    exact ⟨s.applyResetDuring done, takeInput_resetDuring hdone⟩
  | attach => exact ⟨s.attachBuffer, rfl⟩
  | fill i v => exact ⟨s.fillWord i v, rfl⟩

/-- Settles O45, by whether a host action is waiting. -/
theorem stepAlwaysAnswers : Obligations.StepAlwaysAnswers := by
  intro s
  cases hin : s.inputs with
  | nil => exact ⟨s, step_of_inputs_nil hin⟩
  | cons x rest =>
    obtain ⟨t, ht⟩ := takeInput_answers x (s.setInputs rest)
    exact ⟨t, (step_of_inputs_cons hin).trans ht⟩

/-- Settles O39: the next state is the reset of the state without the action taken. -/
theorem resetInput : Obligations.ResetInput := fun s rest hin =>
  ⟨(s.setInputs rest).applyReset, step_of_inputs_cons hin, State.applyReset_faulted _,
    applyReset_eq (s.setInputs rest)⟩

end Sys2Proof.Machine

/-! ## The check values of the sine ROM (spec/21_sine_rom.md section 3)

Only the sum of the quarter table is added up. The symmetries of R54 carry it to the sums of the words, read
as signed integers modulo `2^32`; in the exclusive or they cancel every word but the two extremes. -/

namespace Sys2Proof.Machine

/-- The sum of the quarter table, entry by entry. -/
theorem sum_quarter : ((List.range 1025).map quarter).sum = 42755593 := by decide +kernel

/-- Up to the top of the wave the words are the quarter table. -/
theorem sum_romValue_to_top : ∑ i ∈ Finset.range 1025, romValue i = 42755593 := by
  have hvalues : ∑ i ∈ Finset.range 1025, romValue i = ∑ i ∈ Finset.range 1025, (quarter i : Int) :=
    Finset.sum_congr rfl fun i hi => romValue_of_le (Nat.lt_succ_iff.mp (Finset.mem_range.mp hi))
  have htable : ∑ i ∈ Finset.range 1025, quarter i = 42755593 := sum_quarter
  rw [hvalues, ← Nat.cast_sum, htable]
  rfl

/-- The words of the first quarter wave are the quarter table without its last entry, which is 1.0. -/
theorem sum_romValue_rising : ∑ i ∈ Finset.range 1024, romValue i = 42755593 - 65536 := by
  have htop : romValue 1024 = 65536 := by decide
  have hsplit := Finset.sum_range_succ romValue 1024
  rw [sum_romValue_to_top, htop] at hsplit
  exact eq_sub_of_add_eq hsplit.symm

/-- The words of the second quarter wave are the quarter table backwards without its first entry, which is
`0`. -/
theorem sum_romValue_falling : ∑ i ∈ Finset.range 1024, romValue (1024 + i) = 42755593 := by
  have hmirror : ∀ i ∈ Finset.range 1025, romValue (1024 + i) = romValue (1024 - i) := by
    intro i hi
    have hi' : i ≤ 1024 := Nat.lt_succ_iff.mp (Finset.mem_range.mp hi)
    rw [← romValue_mirror (Nat.sub_le 1024 i)]
    congr 1
    omega
  have hend : romValue (1024 + 1024) = 0 := by decide
  have hsplit := Finset.sum_range_succ (fun i => romValue (1024 + i)) 1024
  rw [Finset.sum_congr rfl hmirror, Finset.sum_flip romValue, sum_romValue_to_top, hend, add_zero] at hsplit
  exact hsplit.symm

theorem sum_romValue_half_wave : ∑ i ∈ Finset.range 2048, romValue i = 2 * 42755593 - 65536 := by
  rw [Finset.sum_range_add romValue 1024 1024, sum_romValue_rising, sum_romValue_falling]
  norm_num

/-- A stretch of the second half wave sums to the negated stretch of the first (R54). -/
theorem sum_romValue_add_half {start n : Nat} (h : start + n ≤ 2048) :
    ∑ i ∈ Finset.range n, romValue (2048 + start + i) =
      -∑ i ∈ Finset.range n, romValue (start + i) := by
  rw [← Finset.sum_neg_distrib]
  refine Finset.sum_congr rfl fun i hi => ?_
  have hin : i < n := Finset.mem_range.mp hi
  rw [Nat.add_assoc, romValue_add_half (by omega)]

/-- The two half waves cancel. -/
theorem sum_romValue_wave : ∑ i ∈ Finset.range 4096, romValue i = 0 := by
  have hcancel := sum_romValue_add_half (start := 0) (n := 2048) le_rfl
  simp only [Nat.add_zero, Nat.zero_add] at hcancel
  rw [Finset.sum_range_add romValue 2048 2048, hcancel, add_neg_cancel]

/-- An index and the one half a wave later spell opposite values, so the weights leave `-2048` times the sum
of the half wave. -/
theorem sum_mul_romValue_wave :
    ∑ i ∈ Finset.range 4096, (i : Int) * romValue i = -2048 * (2 * 42755593 - 65536) := by
  have hpair : ∀ i ∈ Finset.range 2048,
      (i : Int) * romValue i + ((2048 + i : Nat) : Int) * romValue (2048 + i) = -2048 * romValue i := by
    intro i hi
    rw [romValue_add_half (Finset.mem_range.mp hi)]
    push_cast
    ring
  rw [Finset.sum_range_add (fun i : Nat => (i : Int) * romValue i) 2048 2048, ← Finset.sum_add_distrib,
    Finset.sum_congr rfl hpair, ← Finset.mul_sum, sum_romValue_half_wave]

/-- Modulo `2^32` the unsigned reading of a ROM word is the integer it spells. -/
theorem romWord_toNat_modEq (i : Nat) : ((romWord i).toNat : Int) ≡ romValue i [ZMOD 2 ^ 32] := by
  rw [← romWord_toInt, BitVec.toInt_eq_toNat_bmod]
  exact Int.bmod_emod.symm

/-- A sum of naturals modulo `2^32`, from integers with the same residues. -/
theorem sum_map_range_mod_eq {f : Nat → Nat} {v : Nat → Int} {n r : Nat}
    (hfv : ∀ i, (f i : Int) ≡ v i [ZMOD 2 ^ 32]) (hsum : (∑ i ∈ Finset.range n, v i) % 2 ^ 32 = r) :
    ((List.range n).map f).sum % 2 ^ 32 = r := by
  have hlist : ((List.range n).map f).sum = ∑ i ∈ Finset.range n, f i := rfl
  have hmod : ∑ i ∈ Finset.range n, (f i : Int) ≡ ∑ i ∈ Finset.range n, v i [ZMOD 2 ^ 32] :=
    Int.ModEq.sum fun i _ => hfv i
  rw [hlist]
  zify
  rw [← hsum]
  exact hmod

/-- The exclusive or of a list, as the check value takes it. -/
def xorAll (l : List Nat) : Nat := l.foldl Nat.xor 0

theorem xorAll_cons (a : Nat) (l : List Nat) : xorAll (a :: l) = a ^^^ xorAll l := by
  have hassoc : l.foldl (· ^^^ ·) (a ^^^ 0) = a ^^^ l.foldl (· ^^^ ·) 0 := List.foldl_assoc
  rw [Nat.xor_comm] at hassoc
  exact hassoc

theorem xorAll_append (l m : List Nat) : xorAll (l ++ m) = xorAll l ^^^ xorAll m := by
  induction l with
  | nil => exact (Nat.zero_xor _).symm
  | cons a l ih => rw [List.cons_append, xorAll_cons, xorAll_cons, ih, Nat.xor_assoc]

/-- Around a centre that `f` is symmetric about, all terms cancel in pairs but the one at the centre. -/
theorem xorAll_symmetric {f : Nat → Nat} {c k : Nat} (hk : k ≤ c)
    (hf : ∀ j ≤ k, f (c - j) = f (c + j)) :
    xorAll ((List.range' (c - k) (2 * k + 1)).map f) = f c := by
  induction k with
  | zero => exact Nat.zero_xor (f c)
  | succ k ih =>
    have hinner := ih (by omega) fun j hj => hf j (by omega)
    have hlist : List.range' (c - (k + 1)) (2 * (k + 1) + 1) =
        (c - (k + 1)) :: (List.range' (c - k) (2 * k + 1) ++ [c + (k + 1)]) := by
      have hfirst : c - (k + 1) + 1 = c - k := by omega
      have hlast : c - k + (2 * k + 1) = c + (k + 1) := by omega
      rw [Nat.mul_succ, List.range'_succ, hfirst, List.range'_1_concat, hlast]
    rw [hlist, List.map_cons, List.map_append, xorAll_cons, xorAll_append, hinner, hf (k + 1) le_rfl,
      List.map_singleton, xorAll_cons, Nat.xor_comm (f c)]
    simp [xorAll]

/-- The first half wave is symmetric about its largest word (R54). -/
theorem romWord_symmetric_top {j : Nat} (hj : j ≤ 1024) : romWord (1024 - j) = romWord (1024 + j) := by
  rw [romWord_eq_word_romValue, romWord_eq_word_romValue, ← romValue_mirror (Nat.sub_le 1024 j)]
  congr 2
  omega

/-- The second half wave is symmetric about its smallest word (R54). -/
theorem romWord_symmetric_bottom {j : Nat} (hj : j < 1024) : romWord (3072 - j) = romWord (3072 + j) := by
  have hleft : 3072 - j = 2048 + (1024 - j) := by omega
  have hright : 3072 + j = 2048 + (2048 - (1024 - j)) := by omega
  rw [romWord_eq_word_romValue, romWord_eq_word_romValue, hleft, hright, romValue_add_half (by omega),
    romValue_add_half (by omega), romValue_mirror (Nat.sub_le 1024 j)]

/-- The two zero words and the symmetric rest of each half wave leave the largest and the smallest word. -/
theorem xorAll_romWord :
    xorAll ((List.range 4096).map fun i => (romWord i).toNat) = 0xFFFE0000 := by
  have htop : xorAll ((List.range' 1 2047).map fun i => (romWord i).toNat) = (romWord 1024).toNat :=
    xorAll_symmetric (c := 1024) (k := 1023) (by decide) fun j hj =>
      congrArg BitVec.toNat (romWord_symmetric_top (by omega))
  have hbottom :
      xorAll ((List.range' 2049 2047).map fun i => (romWord i).toNat) = (romWord 3072).toNat :=
    xorAll_symmetric (c := 3072) (k := 1023) (by decide) fun j hj =>
      congrArg BitVec.toNat (romWord_symmetric_bottom (by omega))
  have hlist : List.range 4096 =
      (0 :: List.range' 1 2047) ++ (2048 :: List.range' 2049 2047) := by
    rw [List.range_eq_range']
    exact (List.range'_append_1 (s := 0) (m := 2048) (n := 2048)).symm
  rw [hlist, List.map_append, xorAll_append, List.map_cons, List.map_cons, xorAll_cons, xorAll_cons,
    htop, hbottom]
  decide

/-- Settles O16: each residue is that of a sum of the values the words spell. -/
theorem romCheckValues : Obligations.RomCheckValues := by
  have hthird := sum_romValue_add_half (start := 0) (n := 1024) (by decide)
  have hfourth := sum_romValue_add_half (start := 1024) (n := 1024) le_rfl
  simp only [Nat.add_zero, Nat.zero_add, sum_romValue_rising] at hthird
  rw [sum_romValue_falling] at hfourth
  refine ⟨sum_quarter, sum_map_range_mod_eq romWord_toNat_modEq ?_, xorAll_romWord,
    sum_map_range_mod_eq (v := fun i => i * romValue i) (fun i => ?_) ?_,
    sum_map_range_mod_eq romWord_toNat_modEq ?_,
    sum_map_range_mod_eq (fun i => romWord_toNat_modEq (1024 + i)) ?_,
    sum_map_range_mod_eq (fun i => romWord_toNat_modEq (2048 + i)) ?_,
    sum_map_range_mod_eq (fun i => romWord_toNat_modEq (3072 + i)) ?_⟩
  · rw [sum_romValue_wave]
    rfl
  · rw [Nat.cast_mul]
    exact (romWord_toNat_modEq i).mul_left i
  · rw [sum_mul_romValue_wave]
    rfl
  · rw [sum_romValue_rising]
    rfl
  · rw [sum_romValue_falling]
    rfl
  · rw [hthird]
    rfl
  · rw [hfourth]
    rfl

end Sys2Proof.Machine
